-- ==== Sys2Proof/Word.lean ====
section
/-! DEFINITION. The three widths the spec uses: bytes, 16-bit accumulators and 32-bit command and response words. -/

namespace Sys2Proof

/-- 8 bits: a frame byte, an id, a length, a buffer cell (R14, R45). -/
abbrev Byte := BitVec 8

/-- 16 bits: a CRC accumulator, the DATA field of a response (R12, R80). -/
abbrev Half := BitVec 16

/-- 32 bits: a command word or a response word (R70, R80). It has no byte order (R43). -/
abbrev Word := BitVec 32

end Sys2Proof
end

