-- ==== Sys2Proof/Syntax.lean ====
section
/-! DEFINITION. The commands of the block, one constructor per row of spec/opcode_table.json, and the pseudo-instructions
that stand for sequences of them. -/

namespace Sys2Proof

/-- The nine commands (30_encoding.md R72). Every operand is an unsigned field of its own width, never extended,
scaled or shifted (R71), so the field types are the operand ranges. -/
inductive Instr where
  /-- `CRC_INIT` (R103). -/
  | crcInit
  /-- `CRC_SEED h` (R104). -/
  | crcSeed (h : Half)
  /-- `CRC_UPDATE b` (R105). -/
  | crcUpdate (b : Byte)
  /-- `CRC_READ` (R106). -/
  | crcRead
  /-- `RX_RESET` (R120). -/
  | rxReset
  /-- `RX_FEED b` (R121). -/
  | rxFeed (b : Byte)
  /-- `RX_READ i` (R128). -/
  | rxRead (i : Byte)
  /-- `RX_STATUS` (R129). -/
  | rxStatus
  /-- `TX_SEND comp, msg, len` (R150). -/
  | txSend (comp msg len : Byte)
  deriving DecidableEq, Repr

/-- The four pseudo-instructions of R86. -/
inductive Pseudo where
  /-- `CRC16 b1, ..., bk`. -/
  | crc16 (bytes : List Byte)
  /-- `CRC16_UPDATE p, b1, ..., bk`. -/
  | crc16Update (p : Half) (bytes : List Byte)
  /-- `RX_FEEDS b1, ..., bk`. -/
  | rxFeeds (bytes : List Byte)
  /-- `RX_READFRAME`: it has no operand, its `N` is the DATA of the last `FRAME_READY` response. -/
  | rxReadFrame
  deriving DecidableEq, Repr

end Sys2Proof
end

