-- ==== Sys2Proof/Decode.lean ====
section
/-! DEFINITION. The command decoder, total on all 2^32 words (30_encoding.md R70 to R76), and the encoder written from
the same formats. -/

namespace Sys2Proof

/-- Why a word is no command (R75). -/
inductive DecodeError where
  /-- The opcode `w[31:28]` is reserved: `0x0`, `0x5` to `0x7`, `0xD` to `0xF`. -/
  | reservedOpcode
  /-- The opcode is assigned, but a must-be-zero bit of its format is `1`. -/
  | mustBeZeroBit
  deriving DecidableEq, Repr

/-- `OP = w[31:28]` (R70). -/
def opcodeOf (w : Word) : BitVec 4 := w.extractLsb' 28 4

/-- `B = w[7:0]`, also `LEN` of format T (R71). -/
def fieldB (w : Word) : Byte := w.extractLsb' 0 8

/-- `H = w[15:0]` (R71). -/
def fieldH (w : Word) : Half := w.extractLsb' 0 16

/-- `MSG = w[15:8]` (R71). -/
def fieldMsg (w : Word) : Byte := w.extractLsb' 8 8

/-- `COMP = w[23:16]` (R71). -/
def fieldComp (w : Word) : Byte := w.extractLsb' 16 8

/-- One row of the table of R73: a word `w` selects the row when `w & mask = mtch`. -/
structure Row where
  mnemonic : String
  mtch : Word
  mask : Word
  fields : Word → Instr

/-- The match and mask table of R73, with the fields of each row's format (R71). -/
def decodeTable : List Row :=
  [ { mnemonic := "CRC_INIT", mtch := 0x10000000, mask := 0xFFFFFFFF, fields := fun _ => .crcInit },
    { mnemonic := "CRC_SEED", mtch := 0x20000000, mask := 0xFFFF0000, fields := fun w => .crcSeed (fieldH w) },
    { mnemonic := "CRC_UPDATE", mtch := 0x30000000, mask := 0xFFFFFF00, fields := fun w => .crcUpdate (fieldB w) },
    { mnemonic := "CRC_READ", mtch := 0x40000000, mask := 0xFFFFFFFF, fields := fun _ => .crcRead },
    { mnemonic := "RX_RESET", mtch := 0x80000000, mask := 0xFFFFFFFF, fields := fun _ => .rxReset },
    { mnemonic := "RX_FEED", mtch := 0x90000000, mask := 0xFFFFFF00, fields := fun w => .rxFeed (fieldB w) },
    { mnemonic := "RX_READ", mtch := 0xA0000000, mask := 0xFFFFFF00, fields := fun w => .rxRead (fieldB w) },
    { mnemonic := "RX_STATUS", mtch := 0xB0000000, mask := 0xFFFFFFFF, fields := fun _ => .rxStatus },
    { mnemonic := "TX_SEND", mtch := 0xC0000000, mask := 0xFF000000,
      fields := fun w => .txSend (fieldComp w) (fieldMsg w) (fieldB w) } ]

/-- `w` selects `r`: `(w & mask) == match` (R73). -/
def Row.selects (r : Row) (w : Word) : Bool := w &&& r.mask == r.mtch

/-- The opcodes that R72 assigns to a command. -/
def assignedOpcodes : List (BitVec 4) := [0x1, 0x2, 0x3, 0x4, 0x8, 0x9, 0xA, 0xB, 0xC]

/-- The reason a word that selects no row is illegal (R75). -/
def illegalReason (w : Word) : DecodeError :=
  if opcodeOf w ∈ assignedOpcodes then .mustBeZeroBit else .reservedOpcode

/-- The decoder of R74: the first row the word selects, with the fields of its format; every other word is illegal. -/
def decode (w : Word) : Except DecodeError Instr :=
  match decodeTable.find? (fun r => r.selects w) with
  | some r => .ok (r.fields w)
  | none => .error (illegalReason w)

/-- Format N: the opcode and 28 must-be-zero bits (R70). -/
def formatN (op : BitVec 4) : Word := op ++ (0 : BitVec 28)

/-- Format B: the opcode, 20 must-be-zero bits, a byte (R70). -/
def formatB (op : BitVec 4) (b : Byte) : Word := op ++ (0 : BitVec 20) ++ b

/-- Format H: the opcode, 12 must-be-zero bits, a halfword (R70). -/
def formatH (op : BitVec 4) (h : Half) : Word := op ++ (0 : BitVec 12) ++ h

/-- Format T: the opcode, 4 must-be-zero bits, component id, message id, length (R70). -/
def formatT (op : BitVec 4) (comp msg len : Byte) : Word := op ++ (0 : BitVec 4) ++ comp ++ msg ++ len

/-- The word of a command: its opcode (R72) in its format (R70). -/
def encode : Instr → Word
  | .crcInit => formatN 0x1
  | .crcSeed h => formatH 0x2 h
  | .crcUpdate b => formatB 0x3 b
  | .crcRead => formatN 0x4
  | .rxReset => formatN 0x8
  | .rxFeed b => formatB 0x9 b
  | .rxRead i => formatB 0xA i
  | .rxStatus => formatN 0xB
  | .txSend comp msg len => formatT 0xC comp msg len

/-- The command word whose low `nbits` bits are those of `w` and whose other bits are 0. Every command is one 32-bit
word carried whole (R43, R76), so there is no byte order to undo. DEDUCED, log 13. -/
def tableWord (nbits w : Nat) : Word := BitVec.ofNat 32 (w % 2 ^ nbits)

/-- The command the decoder reads from an instruction of `nbits` bits whose bits are `w`; none where it refuses, and
none for more than the 32 bits every command has (R76). -/
def decodeTableWord (nbits w : Nat) : Option Instr :=
  if nbits ≤ 32 then
    match decode (tableWord nbits w) with
    | .ok i => some i
    | .error _ => none
  else none

end Sys2Proof
end

