-- ==== Sys2Proof/Config.lean ====
section
/-! DEFINITION. What an instance of the block fixes for its whole life: the one open parameter of the spec. -/

namespace Sys2Proof

/-- The parameters of one instance of the block.

`START_MARKER` is the only open parameter (00_scope.md R8; 92 D4; 93 I1 says to treat it as a parameter). It is "a
constant of the instance, not a register, and no command changes it" (R193). State holds it as a field, so a statement
about every state is a statement about every marker. DESIGN CHOICE (safe), log 1. -/
structure Config where
  /-- The start-of-frame sentinel byte. -/
  startMarker : Byte
  deriving DecidableEq, Repr

end Sys2Proof
end

