-- ==== Sys2Proof/Machine/Params.lean ====
section
/-! DEFINITION. The implementation parameters of 00_scope.md R8 to R13. -/

namespace Sys2Proof.Machine

/-- `START_MARKER` at its default, `0xA5` (R8); the value of the parameter in `State.reset`. -/
def defaultConfig : Config := { startMarker := 0xA5 }

/-- `MAX_PAYLOAD`: the largest legal payload length, on receive and on transmit (R9). -/
def maxPayload : Nat := 250

/-- `HEADER_SIZE`: the bytes before the payload on the wire, the start marker among them (R10). -/
def headerSize : Nat := 4

/-- `CRC_HEADER_SIZE`: the header bytes that are checksummed (R10). -/
def crcHeaderSize : Nat := 3

/-- `CHECKSUM_SIZE` (R11). -/
def checksumSize : Nat := 2

/-- `CRC_INIT`: the initial value of every accumulator (R12). -/
def crcInit : Half := 0xFFFF

/-- `CRC_POLY_R`: the bit-reflected CCITT polynomial (R12; from general knowledge, 93 G1; log 12). -/
def crcPolyR : Half := 0x8408

/-- `FB_SIZE`: the cells of the RX frame buffer (R13). -/
def fbSize : Nat := 256

end Sys2Proof.Machine
end

