-- ==== Sys2Proof/Machine/State.lean ====
section
/-! DEFINITION. The state of one instance of the block (10_state.md), the reasons a step can stop, and the state after
reset (70_reset_and_hazards.md R190). -/

namespace Sys2Proof.Machine

/-- A byte space in canonical form: (address, byte) pairs, addresses strictly rising, no entry equal to what an unlisted
address reads as. `Memory.wf` says so; `Memory.read` says what an unlisted address reads as. -/
abbrev Memory := List Host.Cell

/-- The host's answer to one `HostAlloc` call (20_memory.md R53). -/
inductive AllocAnswer where
  | granted
  | denied
  deriving DecidableEq, Repr

/-- Everything the spec gives one instance of the block, and the host's inputs and outputs at its interface. -/
@[ext]
structure State where
  /-- `CRC_ACC`, the accumulator of the CRC unit (R21). -/
  crcAcc : Half
  /-- `RX_STATE`: 0 AwaitingStart, 1 AwaitingHeader, 2 AwaitingBody; 3 is never written (R22). -/
  rxState : BitVec 2
  /-- `RX_CRC`, the accumulator of the frame being received (R23). -/
  rxCrc : Half
  /-- `RX_CNT`, the header or body bytes seen since the state was entered (R24). -/
  rxCnt : Byte
  /-- `FRAME_VALID`, the only flag (R25). -/
  frameValid : Bool
  /-- `RX_EXP`, the bytes of the frame after the start marker (R26). -/
  rxExp : Byte
  /-- `FB[0..255]`, the RX frame buffer at wire offsets (R27, R52). -/
  fb : Memory
  /-- The parameters of this instance; no command changes them (R193). -/
  config : Config
  /-- The command words the host is about to issue, in command order (R47). The model's own field: log 3. -/
  commands : List Word
  /-- The response words returned so far, oldest first, one per command (R80, R56). The model's own record: log 8. -/
  responses : List Word
  /-- Whether the host has bound the transport's capabilities (R193). -/
  transportBound : Bool
  /-- The host's answers to the coming `HostAlloc` calls, in order: a free draw of the host (R53). Log 5. -/
  allocAnswers : List AllocAnswer
  /-- The sizes sent with the `HostAlloc` calls so far, oldest first (R53, R56). The model's own record: log 8. -/
  allocCalls : List Nat
  /-- The payload bytes the host supplies, in the order the block reads them (R55). Log 6. -/
  payload : List Byte
  /-- The TX frame stream: the frames handed to `HostEnqueue`, in enqueue order (R54). -/
  txStream : List (List Byte)
  deriving DecidableEq, Repr

/-- The faults. Each is raised only in a state that R30 rules out ("A state that breaks it is unreachable from reset"). -/
inductive Fault where
  /-- `RX_FEED` with `RX_STATE = 3`: "No rule gives it a step" (93 I9). Raised by `execRxFeed`. Safe. Log 9. -/
  | rxStateIllFormed
  /-- An index of `FB` above 255, which does not exist (R17, R27). Raised by `State.fbRead` and `State.fbWrite`, for
  `execRxFeed`. Safe. Log 10. -/
  | fbIndexOutOfRange
  /-- `3 + FB[1] + 2` above 255, which the 8-bit `RX_EXP` does not hold (R16, R26). Raised by `State.writeRxExp`, for
  `execRxFeed`. Safe. Log 11. -/
  | rxExpOutOfRange
  deriving DecidableEq, Repr

/-- The refusals. -/
inductive Refusal where
  /-- The instruction has no meaning yet. Raised by `exec` only. Safe. -/
  | notModelled (mnemonic : String)
  /-- A granted `TX_SEND` finds fewer payload bytes than its length: the host breaks its duty to supply them (R55), and
  "the model has no move in which the host breaks a duty" (R56). Raised by `State.payloadRead`. Safe. Log 7. -/
  | payloadNotSupplied
  deriving DecidableEq, Repr

/-- The block right after reset (R190), before the host has issued, bound or supplied anything (R193). `FB` is
unspecified there and reads as 0 in the model (log 2); the interface fields are empty (log 18). -/
def State.reset : State where
  crcAcc := 0xFFFF
  rxState := 0
  rxCrc := 0xFFFF
  rxCnt := 0
  frameValid := false
  rxExp := 0
  fb := []
  config := defaultConfig
  commands := []
  responses := []
  transportBound := false
  allocAnswers := []
  allocCalls := []
  payload := []
  txStream := []

end Sys2Proof.Machine
end

