-- ==== Sys2Proof/Machine/Operands.lean ====
section
/-! DEFINITION. How values are taken apart and put together: no operand of the block is sign-extended, scaled or shifted
(30_encoding.md R71), and the checksum is the only quantity of more than one byte (20_memory.md R42, R45). -/

namespace Sys2Proof.Machine

/-- `zext_16(v)` of a byte (R16). -/
def zext16 (b : Byte) : Half := b.setWidth 16

/-- `v[7:0]`: the checksum byte sent first (R42). -/
def loByte (v : Half) : Byte := v.extractLsb' 0 8

/-- `v[15:8]`: the checksum byte sent second (R42). -/
def hiByte (v : Half) : Byte := v.extractLsb' 8 8

/-- `lo | (hi << 8)`: the checksum reassembled little-endian (R42). -/
def leHalf (lo hi : Byte) : Half := zext16 lo ||| (zext16 hi <<< 8)

/-- Wire offset of the start marker (R52, R60). -/
def markerIndex : Nat := 0

/-- Wire offset of the payload length N (R52, R60). -/
def lengthIndex : Nat := 1

/-- Wire offset of the component id (R52, R60). -/
def componentIndex : Nat := 2

/-- Wire offset of the message id (R52, R60). -/
def messageIndex : Nat := 3

/-- Wire offset of payload byte `k` (R52, R60). -/
def payloadIndex (k : Nat) : Nat := headerSize + k

/-- Wire offset of the low checksum byte of a frame of payload length `n` (R52, R60). -/
def crcLoIndex (n : Nat) : Nat := headerSize + n

/-- Wire offset of the high checksum byte of a frame of payload length `n` (R52, R60). -/
def crcHiIndex (n : Nat) : Nat := headerSize + 1 + n

/-- The bytes of a whole frame of payload length `n`: `N + 6` (R60, R63). -/
def frameSize (n : Nat) : Nat := headerSize + n + checksumSize

end Sys2Proof.Machine
end

