-- ==== Sys2Proof/Machine/Response.lean ====
section
/-! DEFINITION. The response word and the status codes (30_encoding.md R80, R81; 60_exceptions.md R170 to R172). -/

namespace Sys2Proof.Machine

/-- The nine statuses a command can return (R81, R172). -/
inductive Status where
  | ok
  | incomplete
  | frameReady
  | checksumMismatch
  | noFrame
  | outOfFrame
  | payloadTooLarge
  | transportUnavailable
  | illegalCommand
  deriving DecidableEq, Repr

/-- The code of a status (R81). -/
def Status.code : Status → Byte
  | .ok => 0x00
  | .incomplete => 0x10
  | .frameReady => 0x11
  | .checksumMismatch => 0x12
  | .noFrame => 0x20
  | .outOfFrame => 0x21
  | .payloadTooLarge => 0x30
  | .transportUnavailable => 0x31
  | .illegalCommand => 0xFF

/-- The response word `{STATUS, 0x00, DATA}` (R80). -/
def responseWord (status : Status) (data : Half) : Word := status.code ++ (0 : Byte) ++ data

/-- `STATUS` of a response word (R80). -/
def responseStatus (w : Word) : Byte := w.extractLsb' 24 8

/-- `DATA` of a response word (R80). -/
def responseData (w : Word) : Half := w.extractLsb' 0 16

/-- The DATA of the last `FRAME_READY` response, if there was one: the `N` of `RX_READFRAME` (R86). -/
def State.lastFrameReady (s : State) : Option Nat :=
  (s.responses.reverse.find? (fun w => responseStatus w == Status.frameReady.code)).map (fun w => (responseData w).toNat)

/-- `respond(status, data)`: the response of the command, appended to the response stream (R17, R80). Every error is
reported this way and changes nothing else (R170); there is no other exception entry. -/
def State.respond (s : State) (status : Status) (data : Half) : State :=
  { s with responses := s.responses ++ [responseWord status data] }

/-- What an illegal word does: "no state changes, not even `FRAME_VALID`", and the response is `ILLEGAL_COMMAND` (R171). -/
def State.respondIllegal (s : State) : State := s.respond .illegalCommand 0

end Sys2Proof.Machine
end

