-- ==== Sys2Proof/Machine/Ops.lean ====
section
/-! DEFINITION. The named operations over memory, registers and the host interface. -/

namespace Sys2Proof.Machine

/-- What an operation answers: a value, a fault or a refusal. -/
abbrev Result (α : Type) := Host.Outcome α Fault Refusal

/-- Run `k` on the value `o` answers; a stop stays a stop. -/
def andThen {α β : Type} (o : Result α) (k : α → Result β) : Result β :=
  match o with
  | .next a => k a
  | .fault r => .fault r
  | .refused r => .refused r

/-! Byte spaces. -/

/-- What an address that nothing has written reads as. The contents of `FB` after reset are unspecified, and a model may
take "any fixed pattern", "for example all zeros" (R27, R191). DESIGN CHOICE (unsafe), log 2. -/
def blankByte : Byte := 0

/-- The byte at an address of a byte space. -/
def Memory.read : Memory → Nat → Byte
  | [], _ => blankByte
  | c :: m, a => if c.1 = a then c.2 else Memory.read m a

/-- A byte space without its entries at `a`. -/
def Memory.erase (m : Memory) (a : Nat) : Memory := m.filter (fun c => c.1 != a)

/-- Put an entry before the first entry of a higher address. -/
def Memory.insert : Memory → Nat → Byte → Memory
  | [], a, v => [(a, v)]
  | c :: m, a, v => if a < c.1 then (a, v) :: c :: m else c :: Memory.insert m a v

/-- Write one byte, keeping the canonical form. -/
def Memory.write (m : Memory) (a : Nat) (v : Byte) : Memory :=
  if v = blankByte then m.erase a else (m.erase a).insert a v

/-- Addresses strictly rising from `lo`, below `hi`, and no entry that reads as an unlisted address does. -/
def Memory.canonicalFrom : Nat → Nat → Memory → Bool
  | _, _, [] => true
  | lo, hi, c :: m => lo ≤ c.1 && c.1 < hi && c.2 != blankByte && Memory.canonicalFrom (c.1 + 1) hi m

/-- The canonical form of the frame buffer: only cells 0 to 255 (R27), each listed once, in order, none of them blank. -/
def Memory.wf (m : Memory) : Bool := m.canonicalFrom 0 fbSize

/-- The frame buffer becomes `m`. -/
def State.setFb (s : State) (m : Memory) : State := { s with fb := m }

/-- `FB[i]` (R17): a cell above 255 does not exist. -/
def State.fbRead (s : State) (i : Nat) : Result Byte :=
  if i < fbSize then .next (s.fb.read i) else .fault .fbIndexOutOfRange

/-- `FB[i] <- v` (R17): a cell above 255 does not exist. -/
def State.fbWrite (s : State) (i : Nat) (v : Byte) : Result State :=
  if i < fbSize then .next (s.setFb (s.fb.write i v)) else .fault .fbIndexOutOfRange

/-! Registers. -/

/-- `CRC_ACC <- v` (R21). -/
def State.setCrcAcc (s : State) (v : Half) : State := { s with crcAcc := v }

/-- AwaitingStart (R22). -/
def awaitingStart : BitVec 2 := 0

/-- AwaitingHeader (R22). -/
def awaitingHeader : BitVec 2 := 1

/-- AwaitingBody (R22). -/
def awaitingBody : BitVec 2 := 2

/-- `RX_STATE <- v` (R22). -/
def State.setRxState (s : State) (v : BitVec 2) : State := { s with rxState := v }

/-- `RX_CRC <- v` (R23). -/
def State.setRxCrc (s : State) (v : Half) : State := { s with rxCrc := v }

/-- `RX_CNT <- v` (R24). -/
def State.setRxCnt (s : State) (v : Byte) : State := { s with rxCnt := v }

/-- `RX_EXP <- v` (R26). -/
def State.setRxExp (s : State) (v : Byte) : State := { s with rxExp := v }

/-- `RX_EXP <- n` for an exact sum `n` (R16): the register holds 8 bits. -/
def State.writeRxExp (s : State) (n : Nat) : Result State :=
  if n < 256 then .next (s.setRxExp (BitVec.ofNat 8 n)) else .fault .rxExpOutOfRange

/-! The host interface. -/

/-- The words the host is about to issue become `ws`. -/
def State.setCommands (s : State) (ws : List Word) : State := { s with commands := ws }

/-- The next command word the host issues, and the state in which it is executed; none while the host issues nothing. -/
def State.fetchCommand (s : State) : Option (Word × State) :=
  match s.commands with
  | [] => none
  | w :: rest => some (w, s.setCommands rest)

/-- The host issues `w` as its next command. -/
def State.issue (s : State) (w : Word) : State := s.setCommands (w :: s.commands)

/-- The host's answer to its next `HostAlloc` call: an unbound capability always answers `denied` (R193, 92 D15), and so
does a bound one for which the host has no answer left (log 5). -/
def State.nextAllocAnswer (s : State) : AllocAnswer :=
  if s.transportBound then s.allocAnswers.headD .denied else .denied

/-- `HostAlloc(n)`: the state after the call, its size recorded and the host's answer used up (R53). -/
def State.afterAlloc (s : State) (n : Nat) : State :=
  { s with
    allocCalls := s.allocCalls ++ [n]
    allocAnswers := if s.transportBound then s.allocAnswers.tail else s.allocAnswers }

/-- The payload bytes still to be read become `ps`. -/
def State.setPayload (s : State) (ps : List Byte) : State := { s with payload := ps }

/-- `PayloadRead`: the next byte of the payload, and the state after it is read (R55). -/
def State.payloadRead (s : State) : Result (Byte × State) :=
  match s.payload with
  | [] => .refused .payloadNotSupplied
  | p :: rest => .next (p, s.setPayload rest)

/-- `HostEnqueue(len)`: bytes `0 .. len-1` of the buffer become the next frame of the TX frame stream; the transport always
accepts (R54). -/
def State.hostEnqueue (s : State) (buf : Memory) (len : Nat) : State :=
  { s with txStream := s.txStream ++ [(List.range len).map buf.read] }

end Sys2Proof.Machine
end

