-- ==== Sys2Proof/Machine/Flags.lean ====
section
/-! DEFINITION. The block's only flag, `FRAME_VALID` (10_state.md R25), and the status view `RXSR` (R29). -/

namespace Sys2Proof.Machine

/-- `FRAME_VALID <- v` (R25). -/
def State.setFrameValid (s : State) (v : Bool) : State := { s with frameValid := v }

/-- `RXSR` (R29): `{RX_CNT[7:0], 0b00000, FRAME_VALID, RX_STATE[1:0]}`. -/
def State.rxsr (s : State) : Half := s.rxCnt ++ (0 : BitVec 5) ++ BitVec.ofBool s.frameValid ++ s.rxState

end Sys2Proof.Machine
end

