-- ==== Sys2Proof/Machine/Crc.lean ====
section
/-! DEFINITION. The commands of the CRC unit (40_crc_engine.md R103 to R106). -/

namespace Sys2Proof.Machine

/-- `CRC_ACC <- v; respond(OK, v)`: what the three writing commands of the unit share (R103 to R105). -/
def State.loadCrcAcc (s : State) (v : Half) : State := (s.setCrcAcc v).respond .ok v

/-- `CRC_INIT` (R103). -/
def execCrcInit (s : State) : Result State := .next (s.loadCrcAcc crcInit)

/-- `CRC_SEED h` (R104). -/
def execCrcSeed (h : Half) (s : State) : Result State := .next (s.loadCrcAcc h)

/-- `CRC_UPDATE b` (R105). -/
def execCrcUpdate (b : Byte) (s : State) : Result State := .next (s.loadCrcAcc (crcStep s.crcAcc b))

/-- `CRC_READ` (R106). -/
def execCrcRead (s : State) : Result State := .next (s.respond .ok s.crcAcc)

end Sys2Proof.Machine
end

