-- ==== Sys2Proof/Machine/Rx.lean ====
section
/-! DEFINITION. The commands of the RX unit (41_rx_frame_fsm.md R120 to R129). -/

namespace Sys2Proof.Machine

/-- `RX_RESET` (R120): `FB` is not written. -/
def execRxReset (s : State) : Result State :=
  .next ((((((s.setRxState awaitingStart).setRxCnt 0).setRxExp 0).setRxCrc crcInit).setFrameValid false).respond .ok 0)

/-- The cell the header byte goes to: `1 + RX_CNT` (R124). -/
def headerIndex (s : State) : Nat := 1 + s.rxCnt.toNat

/-- The cell the body byte goes to: `4 + RX_CNT` (R126). -/
def bodyIndex (s : State) : Nat := headerSize + s.rxCnt.toNat

/-- The byte is a payload length above `MAX_PAYLOAD` (R123). -/
def illegalLength (b : Byte) (s : State) : Bool := s.rxCnt == 0 && maxPayload < b.toNat

/-- The byte completes the frame: `3 + (RX_CNT + 1) == RX_EXP` (R126). -/
def completesFrame (s : State) : Bool := crcHeaderSize + (s.rxCnt.toNat + 1) == s.rxExp.toNat

/-- A byte in AwaitingStart (R122). -/
def rxFeedStart (b : Byte) (s : State) : Result State :=
  if b = s.config.startMarker then
    andThen (s.fbWrite markerIndex b) fun s =>
      .next ((((s.setRxCrc crcInit).setRxCnt 0).setRxState awaitingHeader).respond .incomplete 0)
  else .next (s.respond .incomplete 0)

/-- The third header byte, written and folded, ends the header (R125). -/
def rxEndHeader (s : State) : Result State :=
  andThen (s.fbRead lengthIndex) fun n =>
  andThen (s.writeRxExp (crcHeaderSize + n.toNat + checksumSize)) fun s =>
    .next (((s.setRxCnt 0).setRxState awaitingBody).respond .incomplete 0)

/-- A header byte has been written and folded: it is the third (R125), or it is counted (R124). -/
def rxHeaderWritten (s : State) : Result State :=
  if s.rxCnt = 2 then rxEndHeader s else .next ((s.setRxCnt (s.rxCnt + 1)).respond .incomplete 0)

/-- A byte in AwaitingHeader (R123, R124). `RX_CNT + 1` does not wrap: the write before it holds `RX_CNT` below 255. -/
def rxFeedHeader (b : Byte) (s : State) : Result State :=
  if illegalLength b s then .next (((s.setRxState awaitingStart).setRxCnt 0).respond .incomplete 0)
  else andThen (s.fbWrite (headerIndex s) b) fun s => rxHeaderWritten (s.setRxCrc (crcStep s.rxCrc b))

/-- The frame is complete: the received checksum is compared with `RX_CRC` (R126). -/
def rxComplete (n : Byte) (s : State) : Result State :=
  andThen (s.fbRead (crcLoIndex n.toNat)) fun lo =>
  andThen (s.fbRead (crcHiIndex n.toNat)) fun hi =>
    if leHalf lo hi = s.rxCrc then
      .next ((((s.setRxState awaitingStart).setRxCnt 0).setFrameValid true).respond .frameReady (zext16 n))
    else .next (((s.setRxState awaitingStart).setRxCnt 0).respond .checksumMismatch 0)

/-- A payload byte is folded into `RX_CRC`, a checksum byte is not (R127). -/
def rxFoldBody (n b : Byte) (s : State) : State :=
  if s.rxCnt < n then s.setRxCrc (crcStep s.rxCrc b) else s

/-- A body byte has been written, and folded if it is a payload byte: it completes the frame, or it is counted (R126). -/
def rxBodyWritten (n : Byte) (s : State) : Result State :=
  if completesFrame s then rxComplete n s else .next ((s.setRxCnt (s.rxCnt + 1)).respond .incomplete 0)

/-- A byte in AwaitingBody (R126, R127). `RX_CNT + 1` does not wrap: the write before it holds `RX_CNT` below 252. -/
def rxFeedBody (b : Byte) (s : State) : Result State :=
  andThen (s.fbRead lengthIndex) fun n =>
  andThen (s.fbWrite (bodyIndex s) b) fun s => rxBodyWritten n (rxFoldBody n b s)

/-- `RX_FEED b` (R121): every feed first clears `FRAME_VALID` (R25). `RX_STATE = 3` has no step (93 I9, log 9). -/
def execRxFeed (b : Byte) (s : State) : Result State :=
  if s.rxState = awaitingStart then rxFeedStart b (s.setFrameValid false)
  else if s.rxState = awaitingHeader then rxFeedHeader b (s.setFrameValid false)
  else if s.rxState = awaitingBody then rxFeedBody b (s.setFrameValid false)
  else .fault .rxStateIllFormed

/-- The cell of `FB` that `RX_FEED b` writes, if it writes one (R122 to R126). -/
def rxFeedStores (b : Byte) (s : State) : Option Nat :=
  if s.rxState = awaitingStart then (if b = s.config.startMarker then some markerIndex else none)
  else if s.rxState = awaitingHeader then (if illegalLength b s then none else some (headerIndex s))
  else if s.rxState = awaitingBody then some (bodyIndex s)
  else none

/-- `RX_READ i` (R128): `NO_FRAME` is checked before `OUT_OF_FRAME` (R175). -/
def execRxRead (i : Byte) (s : State) : Result State :=
  if s.frameValid then
    andThen (s.fbRead lengthIndex) fun n =>
      if frameSize n.toNat ≤ i.toNat then .next (s.respond .outOfFrame 0)
      else andThen (s.fbRead i.toNat) fun v => .next (s.respond .ok (zext16 v))
  else .next (s.respond .noFrame 0)

/-- `RX_STATUS` (R129). -/
def execRxStatus (s : State) : Result State := .next (s.respond .ok s.rxsr)

end Sys2Proof.Machine
end

