-- ==== Sys2Proof/Machine/Tx.lean ====
section
/-! DEFINITION. The command of the TX unit (42_tx_serializer.md R150 to R156). -/

namespace Sys2Proof.Machine

/-- What the TX unit holds while one `TX_SEND` runs: the granted buffer and its private accumulator. Neither survives the
command (R28). -/
structure TxWork where
  /-- `TXBUF`. -/
  buf : Memory
  /-- `tx_crc`. -/
  crc : Half
  deriving DecidableEq, Repr

/-- `TxBufWrite(i, v)` (R17). -/
def TxWork.put (w : TxWork) (i : Nat) (v : Byte) : TxWork := { w with buf := w.buf.write i v }

/-- `tx_crc <- crc_step(tx_crc, v)`. -/
def TxWork.fold (w : TxWork) (v : Byte) : TxWork := { w with crc := crcStep w.crc v }

/-- The four header bytes, the last three of them folded into a fresh accumulator (R150). The granted buffer's contents
before the first write are never read (log 17). -/
def txHeader (marker comp msg len : Byte) : TxWork :=
  (((((({ buf := [], crc := crcInit : TxWork }.put markerIndex marker).put lengthIndex len).put componentIndex comp).put
    messageIndex msg).fold len).fold comp).fold msg

/-- The payload loop of R150: `remaining` bytes from index `k` on, each read once, written and folded. -/
def txPayload : (remaining k : Nat) → TxWork → State → Result (TxWork × State)
  | 0, _, w, s => .next (w, s)
  | n + 1, k, w, s => andThen s.payloadRead fun r => txPayload n (k + 1) ((w.put (payloadIndex k) r.1).fold r.1) r.2

/-- The checksum, low byte first, at the tail of the buffer (R42, R150). -/
def txTail (n : Nat) (w : TxWork) : TxWork := (w.put (crcLoIndex n) (loByte w.crc)).put (crcHiIndex n) (hiByte w.crc)

/-- The buffer is granted: build the frame, hand it over, respond with its checksum (R150, R152). -/
def txSerialize (comp msg len : Byte) (s : State) : Result State :=
  andThen (txPayload len.toNat 0 (txHeader s.config.startMarker comp msg len) s) fun r =>
    .next ((r.2.hostEnqueue (txTail len.toNat r.1).buf (frameSize len.toNat)).respond .ok r.1.crc)

/-- `TX_SEND comp, msg, len` (R150): the length is checked first, the buffer is requested second (R153). -/
def execTxSend (comp msg len : Byte) (s : State) : Result State :=
  if maxPayload < len.toNat then .next (s.respond .payloadTooLarge 0)
  else
    match s.nextAllocAnswer with
    | .denied => .next ((s.afterAlloc (frameSize len.toNat)).respond .transportUnavailable 0)
    | .granted => txSerialize comp msg len (s.afterAlloc (frameSize len.toNat))

end Sys2Proof.Machine
end

