-- ==== Sys2Proof/Machine/Dispatch.lean ====
section
/-! DEFINITION. One arm per command. -/

namespace Sys2Proof.Machine

/-- The meaning of a command. -/
def exec (i : Instr) (s : State) : Host.Outcome State Fault Refusal :=
  match i with
  | .crcInit => Sys2Proof.Machine.execCrcInit s
  | .crcSeed h => Sys2Proof.Machine.execCrcSeed h s
  | .crcUpdate b => Sys2Proof.Machine.execCrcUpdate b s
  | .crcRead => Sys2Proof.Machine.execCrcRead s
  | .rxReset => Sys2Proof.Machine.execRxReset s
  | .rxFeed b => Sys2Proof.Machine.execRxFeed b s
  | .rxRead idx => Sys2Proof.Machine.execRxRead idx s
  | .rxStatus => Sys2Proof.Machine.execRxStatus s
  | .txSend comp msg len => Sys2Proof.Machine.execTxSend comp msg len s

end Sys2Proof.Machine
end

