-- ==== Sys2Proof/Machine/Step.lean ====
section
/-! DEFINITION. One step of the block: the next command the host issues, executed whole (20_memory.md R44, R47). -/

namespace Sys2Proof.Machine

/-- One step. The block executes the next command of the command stream; an illegal word is answered and changes nothing
else (R75, R171); while the host issues nothing, nothing happens (R2, R137, R183; DEDUCED, log 4). -/
def step (s : State) : Host.Outcome State Fault Refusal :=
  match s.fetchCommand with
  | none => .next s
  | some (w, issued) =>
    match decode w with
    | .ok i => exec i issued
    | .error _ => .next issued.respondIllegal

/-- `s` with the word of `nbits` bits `w` issued as the host's next command, which is where a step takes its command from.
The host loads a program by issuing its words (log 3). -/
def State.withFetchWord (s : State) (nbits w : Nat) : State := s.issue (tableWord nbits w)

end Sys2Proof.Machine
end

