-- ==== Sys2Proof/WellFormed.lean ====
section
/-! DEFINITION. Well-formedness of a command or pseudo-instruction as it is written (30_encoding.md R85, R86): the ranges an
assembler must check.

A term of `Instr` needs no check of its own: its field types are the operand ranges of R71. A written command has
numbers for operands, and a number out of range "is an assembly error, not a truncation" (R85). -/

namespace Sys2Proof

/-- One command as written: the mnemonic chosen, the operands still numbers. -/
inductive Line where
  | crcInit
  | crcSeed (h : Nat)
  | crcUpdate (b : Nat)
  | crcRead
  | rxReset
  | rxFeed (b : Nat)
  | rxRead (i : Nat)
  | rxStatus
  | txSend (comp msg len : Nat)
  deriving DecidableEq, Repr

/-- The operand ranges of R85. -/
def Line.wellFormed : Line → Bool
  | .crcInit => true
  | .crcSeed h => h ≤ 0xFFFF
  | .crcUpdate b => b ≤ 0xFF
  | .crcRead => true
  | .rxReset => true
  | .rxFeed b => b ≤ 0xFF
  | .rxRead i => i ≤ 0xFF
  | .rxStatus => true
  | .txSend comp msg len => comp ≤ 0xFF && msg ≤ 0xFF && len ≤ 0xFF

/-- The command a well-formed line stands for. -/
def Line.toInstr : Line → Instr
  | .crcInit => .crcInit
  | .crcSeed h => .crcSeed (BitVec.ofNat 16 h)
  | .crcUpdate b => .crcUpdate (BitVec.ofNat 8 b)
  | .crcRead => .crcRead
  | .rxReset => .rxReset
  | .rxFeed b => .rxFeed (BitVec.ofNat 8 b)
  | .rxRead i => .rxRead (BitVec.ofNat 8 i)
  | .rxStatus => .rxStatus
  | .txSend comp msg len => .txSend (BitVec.ofNat 8 comp) (BitVec.ofNat 8 msg) (BitVec.ofNat 8 len)

/-- One pseudo-instruction of R86 as written: the mnemonic chosen, the operands still numbers. -/
inductive PseudoLine where
  | crc16 (bytes : List Nat)
  | crc16Update (p : Nat) (bytes : List Nat)
  | rxFeeds (bytes : List Nat)
  | rxReadFrame
  deriving DecidableEq, Repr

/-- The operand ranges of the commands a pseudo-instruction expands to (R85, R86). -/
def PseudoLine.wellFormed : PseudoLine → Bool
  | .crc16 bytes => bytes.all (· ≤ 0xFF)
  | .crc16Update p bytes => p ≤ 0xFFFF && bytes.all (· ≤ 0xFF)
  | .rxFeeds bytes => bytes.all (· ≤ 0xFF)
  | .rxReadFrame => true

/-- The pseudo-instruction a well-formed line stands for. -/
def PseudoLine.toPseudo : PseudoLine → Pseudo
  | .crc16 bytes => .crc16 (bytes.map (BitVec.ofNat 8))
  | .crc16Update p bytes => .crc16Update (BitVec.ofNat 16 p) (bytes.map (BitVec.ofNat 8))
  | .rxFeeds bytes => .rxFeeds (bytes.map (BitVec.ofNat 8))
  | .rxReadFrame => .rxReadFrame

/-- What one line of a listing writes: a command (R85) or a pseudo-instruction (R86). -/
inductive SourceLine where
  | command (l : Line)
  | pseudo (p : PseudoLine)
  deriving DecidableEq, Repr

/-- The line that writes a command. -/
def Instr.toLine : Instr → Line
  | .crcInit => .crcInit
  | .crcSeed h => .crcSeed h.toNat
  | .crcUpdate b => .crcUpdate b.toNat
  | .crcRead => .crcRead
  | .rxReset => .rxReset
  | .rxFeed b => .rxFeed b.toNat
  | .rxRead i => .rxRead i.toNat
  | .rxStatus => .rxStatus
  | .txSend comp msg len => .txSend comp.toNat msg.toNat len.toNat

end Sys2Proof
end

