-- ==== Sys2Proof/Machine/Assembler.lean ====
section
/-! DEFINITION. The assembler syntax and the pseudo-instructions (30_encoding.md R85, R86). They have no effect on the
block: they say which words the host issues. -/

namespace Sys2Proof.Machine

/-- Without the white space at its front. -/
def skipSpaces : List Char → List Char
  | [] => []
  | c :: cs => if c = ' ' then skipSpaces cs else c :: cs

/-- Without the white space at its front and at its end. -/
def trimSpaces (cs : List Char) : List Char := (skipSpaces (skipSpaces cs).reverse).reverse

/-- The parts of a text between the separators. -/
def splitAtChar (sep : Char) : List Char → List (List Char)
  | [] => [[]]
  | c :: cs =>
    match splitAtChar sep cs with
    | [] => [[c]]
    | p :: ps => if c = sep then [] :: p :: ps else (c :: p) :: ps

/-- The value of a digit in base `base`, 10 or 16; letters of either case (log 19). -/
def digitValue (base : Nat) (c : Char) : Option Nat :=
  let v :=
    if '0' ≤ c ∧ c ≤ '9' then c.toNat - '0'.toNat
    else if 'a' ≤ c ∧ c ≤ 'f' then c.toNat - 'a'.toNat + 10
    else if 'A' ≤ c ∧ c ≤ 'F' then c.toNat - 'A'.toNat + 10
    else base
  if v < base then some v else none

/-- The number that digits continue from `acc`. -/
def readDigits (base : Nat) : Nat → List Char → Option Nat
  | acc, [] => some acc
  | acc, c :: cs =>
    match digitValue base c with
    | some d => readDigits base (acc * base + d) cs
    | none => none

/-- "A number is decimal (`250`) or hexadecimal with `0x` (`0xA5`)" (R85). -/
def readNumber : List Char → Option Nat
  | [] => none
  | '0' :: 'x' :: c :: cs => readDigits 16 0 (c :: cs)
  | c :: cs => readDigits 10 0 (c :: cs)

/-- The operands after a mnemonic: none, or numbers separated by commas (R85). -/
def readOperands (cs : List Char) : Option (List Nat) :=
  match trimSpaces cs with
  | [] => some []
  | ds => (splitAtChar ',' ds).mapM (fun d => readNumber (trimSpaces d))

/-- The command a mnemonic and its operands write (R85). -/
def commandOf (mnemonic : List Char) (operands : List Nat) : Option Line :=
  match operands with
  | [] =>
    if mnemonic = "CRC_INIT".toList then some .crcInit
    else if mnemonic = "CRC_READ".toList then some .crcRead
    else if mnemonic = "RX_RESET".toList then some .rxReset
    else if mnemonic = "RX_STATUS".toList then some .rxStatus
    else none
  | [a] =>
    if mnemonic = "CRC_SEED".toList then some (.crcSeed a)
    else if mnemonic = "CRC_UPDATE".toList then some (.crcUpdate a)
    else if mnemonic = "RX_FEED".toList then some (.rxFeed a)
    else if mnemonic = "RX_READ".toList then some (.rxRead a)
    else none
  | [a, b, c] => if mnemonic = "TX_SEND".toList then some (.txSend a b c) else none
  | _ => none

/-- The pseudo-instruction a mnemonic and its operands write (R86). -/
def pseudoOf (mnemonic : List Char) (operands : List Nat) : Option PseudoLine :=
  if mnemonic = "CRC16".toList then some (.crc16 operands)
  else if mnemonic = "CRC16_UPDATE".toList then
    match operands with
    | p :: bytes => some (.crc16Update p bytes)
    | [] => none
  else if mnemonic = "RX_FEEDS".toList then some (.rxFeeds operands)
  else if mnemonic = "RX_READFRAME".toList ∧ operands = [] then some .rxReadFrame
  else none

/-- A line of text: a command or a pseudo-instruction, and perhaps a trailing annotation after `;`, which is not part of it.
R85 shows such an annotation for the payload of `TX_SEND` only; that any text after `;` is dropped, on every line, is the
model's DESIGN CHOICE (safe), log 19. -/
def readLine (text : List Char) : Option SourceLine :=
  let code := trimSpaces (text.takeWhile (fun c => c != ';'))
  let mnemonic := code.takeWhile (fun c => c != ' ')
  match readOperands (code.dropWhile (fun c => c != ' ')) with
  | none => none
  | some operands =>
    match commandOf mnemonic operands with
    | some l => some (.command l)
    | none => (pseudoOf mnemonic operands).map .pseudo

/-- The word of a written command; "An operand out of range is an assembly error, not a truncation" (R85). -/
def assembleLine (l : Line) : Option Word := if l.wellFormed then some (encode l.toInstr) else none

/-- The reads of a frame of payload length `n`: `RX_READ 0` to `RX_READ N+5` (R86). -/
def readFrameCommands (n : Nat) : List Instr := (List.range (n + 6)).map (fun i => .rxRead (BitVec.ofNat 8 i))

/-- The commands a pseudo-instruction expands to, in order (R86), where `s` is the state it is issued in. `RX_READFRAME`
takes its N from the responses so far. It has no expansion before the first `FRAME_READY`, where the spec gives no N, nor
for an N whose indices no `RX_READ` can carry: DESIGN CHOICE (safe), log 22. -/
def expandPseudo (p : Pseudo) (s : State) : Option (List Instr) :=
  match p with
  | .crc16 bytes => some (.crcInit :: (bytes.map .crcUpdate ++ [.crcRead]))
  | .crc16Update p bytes => some (.crcSeed p :: (bytes.map .crcUpdate ++ [.crcRead]))
  | .rxFeeds bytes => some (bytes.map .rxFeed)
  | .rxReadFrame =>
    match s.lastFrameReady with
    | some n => if n ≤ maxPayload then some (readFrameCommands n) else none
    | none => none

/-- The words of a written line, issued in the state `s`; none where it is an assembly error. -/
def assembleSource (l : SourceLine) (s : State) : Option (List Word) :=
  match l with
  | .command c => (assembleLine c).map (fun w => [w])
  | .pseudo p => if p.wellFormed then (expandPseudo p.toPseudo s).map (fun is => is.map encode) else none

/-- The words of a line of text, issued in the state `s`; none where it is an assembly error. -/
def assemble (text : String) (s : State) : Option (List Word) :=
  match readLine text.toList with
  | some l => assembleSource l s
  | none => none

end Sys2Proof.Machine
end

