-- ==== Sys2Proof/Safety.lean ====
section
/-! DEFINITION. The terms claims about the block are stated in: the invariant of reachable states, the wire frame, runs of
commands, which unit a command addresses, and which parts of the state no command can observe. -/

namespace Sys2Proof.Machine

/-! Runs. -/

/-- The commands of a list executed in order, stopping at the first stop (the command order of R47). -/
def execAll : List Instr → State → Result State
  | [], s => .next s
  | i :: is, s => andThen (exec i s) (execAll is)

/-- `n` steps of the machine in a row, stopping at the first stop. -/
def stepMany : Nat → State → Result State
  | 0, s => .next s
  | n + 1, s => andThen (step s) (stepMany n)

/-- A byte stream fed to the RX unit, one `RX_FEED` a byte. -/
def feedAll (bytes : List Byte) (s : State) : Result State := execAll (bytes.map .rxFeed) s

/-- The response to a feed that reaches no frame boundary. -/
def incompleteWord : Word := responseWord .incomplete 0

/-! Frames. -/

/-- The checksum of a frame (R61): over the length byte, the component id, the message id and the payload, in wire order. -/
def frameCrc (comp msg : Byte) (payload : List Byte) : Half :=
  crc16 (BitVec.ofNat 8 payload.length :: comp :: msg :: payload)

/-- The bytes of a frame before its checksum (R60). -/
def wireBody (marker comp msg : Byte) (payload : List Byte) : List Byte :=
  marker :: BitVec.ofNat 8 payload.length :: comp :: msg :: payload

/-- The wire frame of R60 with the checksum of R61. -/
def wireFrame (marker comp msg : Byte) (payload : List Byte) : List Byte :=
  wireBody marker comp msg payload ++ [loByte (frameCrc comp msg payload), hiByte (frameCrc comp msg payload)]

/-- A byte with one bit flipped. -/
def flipBit (b : Byte) (bit : Nat) : Byte := b ^^^ BitVec.twoPow 8 bit

/-- A byte sequence with bit `bit` of byte `pos` flipped. -/
def flipAt (bytes : List Byte) (pos bit : Nat) : List Byte := bytes.modify pos (fun b => flipBit b bit)

/-! The invariant of reachable states (10_state.md R30). -/

/-- `FB[lo .. lo+n-1]`. -/
def State.fbBytes (s : State) (lo n : Nat) : List Byte := (List.range n).map (fun k => s.fb.read (lo + k))

/-- `N = FB[1]`, the received payload length (R24). -/
def State.frameLen (s : State) : Nat := (s.fb.read lengthIndex).toNat

/-- R30, with what makes it inductive: the cells and the accumulator of a frame in progress. -/
structure BlockInv (s : State) : Prop where
  /-- The frame buffer is in canonical form. -/
  fbCanonical : s.fb.wf = true
  /-- `RX_STATE` is never 3 (R22). -/
  stateLegal : s.rxState = awaitingStart ∨ s.rxState = awaitingHeader ∨ s.rxState = awaitingBody
  /-- `RX_STATE = 0` implies `RX_CNT = 0`. -/
  start : s.rxState = awaitingStart → s.rxCnt = 0
  /-- `RX_STATE = 1` implies `RX_CNT` is 0, 1 or 2, and `FB[1] <= MAX_PAYLOAD` once `RX_CNT >= 1`. -/
  header : s.rxState = awaitingHeader →
    s.rxCnt.toNat ≤ 2 ∧ (1 ≤ s.rxCnt.toNat → s.frameLen ≤ maxPayload) ∧
    s.fb.read markerIndex = s.config.startMarker ∧ s.rxCrc = crc16 (s.fbBytes lengthIndex s.rxCnt.toNat)
  /-- `RX_STATE = 2` implies `FB[1] <= 250`, `RX_EXP = 3 + FB[1] + 2` and `RX_CNT <= FB[1] + 1`. -/
  body : s.rxState = awaitingBody →
    s.frameLen ≤ maxPayload ∧ s.rxExp.toNat = 3 + s.frameLen + 2 ∧ s.rxCnt.toNat ≤ s.frameLen + 1 ∧
    s.fb.read markerIndex = s.config.startMarker ∧
    s.rxCrc = crc16 (s.fbBytes lengthIndex (3 + min s.rxCnt.toNat s.frameLen))
  /-- `FRAME_VALID = 1` implies `RX_STATE = 0`, and `FB` holds a frame whose checksum verifies. -/
  valid : s.frameValid = true →
    s.rxState = awaitingStart ∧ s.frameLen ≤ maxPayload ∧ s.fb.read markerIndex = s.config.startMarker ∧
    leHalf (s.fb.read (crcLoIndex s.frameLen)) (s.fb.read (crcHiIndex s.frameLen)) =
      crc16 (s.fbBytes lengthIndex (3 + s.frameLen))

/-! What a command addresses and what it may answer. -/

/-- The three units of the block (R1). -/
inductive BlockUnit where
  | crc
  | rx
  | tx
  deriving DecidableEq, Repr

/-- The unit a command addresses (R72). -/
def unitOf : Instr → BlockUnit
  | .crcInit => .crc
  | .crcSeed _ => .crc
  | .crcUpdate _ => .crc
  | .crcRead => .crc
  | .rxReset => .rx
  | .rxFeed _ => .rx
  | .rxRead _ => .rx
  | .rxStatus => .rx
  | .txSend _ _ _ => .tx

/-- The statuses the catalogue of R172 gives each command. -/
def statusesOf : Instr → List Status
  | .crcInit => [.ok]
  | .crcSeed _ => [.ok]
  | .crcUpdate _ => [.ok]
  | .crcRead => [.ok]
  | .rxReset => [.ok]
  | .rxFeed _ => [.incomplete, .frameReady, .checksumMismatch]
  | .rxRead _ => [.ok, .noFrame, .outOfFrame]
  | .rxStatus => [.ok]
  | .txSend _ _ _ => [.ok, .payloadTooLarge, .transportUnavailable]

/-- The command answers with that status from some state, and goes on (the "returned by" column of R81). -/
def CanAnswer (i : Instr) (st : Status) : Prop :=
  ∃ s t d, exec i s = .next t ∧ t.responses = s.responses ++ [responseWord st d]

/-- The must-be-zero bits of the format of an assigned opcode (R70, R72); no bits for a reserved one. -/
def mustBeZeroBits (op : BitVec 4) : Word :=
  if op = 0x1 ∨ op = 0x4 ∨ op = 0x8 ∨ op = 0xB then 0x0FFFFFFF
  else if op = 0x3 ∨ op = 0x9 ∨ op = 0xA then 0x0FFFFF00
  else if op = 0x2 then 0x0FFF0000
  else if op = 0xC then 0x0F000000
  else 0

/-- `s` with the registers and the buffer of the RX unit taken from `r`. -/
def State.withRxOf (s r : State) : State :=
  { s with
    rxState := r.rxState, rxCrc := r.rxCrc, rxCnt := r.rxCnt, frameValid := r.frameValid, rxExp := r.rxExp, fb := r.fb }

/-! What no command can observe (R23, R26, R27, R31). -/

/-- The cells of `FB` that a later command can still reach: those of the readable frame, or those the frame in progress
has written so far. -/
def State.liveCells (s : State) : Nat :=
  if s.frameValid then s.frameLen + 6
  else if s.rxState = awaitingHeader then 1 + s.rxCnt.toNat
  else if s.rxState = awaitingBody then 4 + s.rxCnt.toNat
  else 0

/-- Two states that a host cannot tell apart: they differ at most in cells of `FB` that nothing can reach any more, in
`RX_CRC` while AwaitingStart (R23) and in `RX_EXP` outside AwaitingBody (R26). -/
structure LooksAlike (s t : State) : Prop where
  fb : ∀ a, a < s.liveCells → s.fb.read a = t.fb.read a
  rxCrc : s.rxState ≠ awaitingStart → s.rxCrc = t.rxCrc
  rxExp : s.rxState = awaitingBody → s.rxExp = t.rxExp
  rest : t = { s with fb := t.fb, rxCrc := t.rxCrc, rxExp := t.rxExp }

end Sys2Proof.Machine
end

