-- ==== Sys2Proof/Certificates/Slice0/Obligations.lean ====
section
/-! DEFINITION. The statements for the provers, from the spec's numbered rules. -/

open Sys2Proof Sys2Proof.Machine

/-! ## Encodings (30_encoding.md) -/

/-- R87: the encoding examples, word by word. -/
def Obligations.ListedExamplesDecode : Prop :=
  decode 0x30000031 = .ok (.crcUpdate 0x31) ∧
  decode 0x20008B13 = .ok (.crcSeed 0x8B13) ∧
  decode 0x900000A5 = .ok (.rxFeed 0xA5) ∧
  decode 0xA0000004 = .ok (.rxRead 4) ∧
  decode 0xC0011003 = .ok (.txSend 0x01 0x10 3) ∧
  decode 0xC07FFFFB = .ok (.txSend 0x7F 0xFF 251) ∧
  decode 0x30000131 = .error .mustBeZeroBit

/-- Decoding the word of a command gives the command back, for every command and every operand. -/
def Obligations.DecodeOfEncodeIsTheCommand : Prop :=
  ∀ i : Instr, decode (encode i) = .ok i

/-- A word that decodes to a command is the word of that command: no other word means it. -/
def Obligations.OnlyItsOwnWordDecodesToACommand : Prop :=
  ∀ (w : Word) (i : Instr), decode w = .ok i → encode i = w

/-- R73: the match and mask table; no two rows match the same word, and a word that matches no row is illegal. -/
def Obligations.MatchAndMaskRowsAreDisjoint : Prop :=
  decodeTable.map (fun r => (r.mnemonic, r.mtch, r.mask)) =
    [("CRC_INIT", 0x10000000, 0xFFFFFFFF), ("CRC_SEED", 0x20000000, 0xFFFF0000), ("CRC_UPDATE", 0x30000000, 0xFFFFFF00),
     ("CRC_READ", 0x40000000, 0xFFFFFFFF), ("RX_RESET", 0x80000000, 0xFFFFFFFF), ("RX_FEED", 0x90000000, 0xFFFFFF00),
     ("RX_READ", 0xA0000000, 0xFFFFFF00), ("RX_STATUS", 0xB0000000, 0xFFFFFFFF), ("TX_SEND", 0xC0000000, 0xFF000000)] ∧
  (∀ w : Word, ∀ r₁ ∈ decodeTable, ∀ r₂ ∈ decodeTable,
    w &&& r₁.mask = r₁.mtch → w &&& r₂.mask = r₂.mtch → r₁.mnemonic = r₂.mnemonic) ∧
  (∀ w : Word, (∀ r ∈ decodeTable, w &&& r.mask ≠ r.mtch) ↔ ∃ e, decode w = .error e)

/-- R75, R171: a word is illegal exactly when its opcode is reserved, or its opcode is assigned and a must-be-zero bit of its
format is 1; the block then changes no state and answers `ILLEGAL_COMMAND`; every other word is a command. -/
def Obligations.IllegalWordsAreTheReservedOnes : Prop :=
  (∀ w : Word, decode w = .error .reservedOpcode ↔
    opcodeOf w ∈ ([0x0, 0x5, 0x6, 0x7, 0xD, 0xE, 0xF] : List (BitVec 4))) ∧
  (∀ w : Word, decode w = .error .mustBeZeroBit ↔
    opcodeOf w ∈ ([0x1, 0x2, 0x3, 0x4, 0x8, 0x9, 0xA, 0xB, 0xC] : List (BitVec 4)) ∧
      w &&& mustBeZeroBits (opcodeOf w) ≠ 0) ∧
  decode 0x00000000 = .error .reservedOpcode ∧
  (∀ (s : State) (w : Word) (rest : List Word) (e : DecodeError),
    s.commands = w :: rest → decode w = .error e →
      step s = .next { s with commands := rest, responses := s.responses ++ [0xFF000000] })

/-- R85: the word of each written form, for operands in range; an operand out of range is an assembly error. -/
def Obligations.AssembledWords : Prop :=
  assembleLine .crcInit = some 0x10000000 ∧
  (∀ h, assembleLine (.crcSeed h) = if h ≤ 0xFFFF then some (0x20000000 ||| BitVec.ofNat 32 h) else none) ∧
  (∀ b, assembleLine (.crcUpdate b) = if b ≤ 0xFF then some (0x30000000 ||| BitVec.ofNat 32 b) else none) ∧
  assembleLine .crcRead = some 0x40000000 ∧
  assembleLine .rxReset = some 0x80000000 ∧
  (∀ b, assembleLine (.rxFeed b) = if b ≤ 0xFF then some (0x90000000 ||| BitVec.ofNat 32 b) else none) ∧
  (∀ i, assembleLine (.rxRead i) = if i ≤ 0xFF then some (0xA0000000 ||| BitVec.ofNat 32 i) else none) ∧
  assembleLine .rxStatus = some 0xB0000000 ∧
  (∀ comp msg len, assembleLine (.txSend comp msg len) =
    if comp ≤ 0xFF ∧ msg ≤ 0xFF ∧ len ≤ 0xFF then
      some (0xC0000000 ||| BitVec.ofNat 32 comp <<< 16 ||| BitVec.ofNat 32 msg <<< 8 ||| BitVec.ofNat 32 len)
    else none)

/-- R86: the four pseudo-instructions, what each expands to and what the expansion does. `CRC16` and `CRC16_UPDATE`, from
every state, leave the whole-sequence CRC in `CRC_ACC` and return it as their last response, that of their `CRC_READ`; with
no byte `CRC16` returns `0xFFFF`. The feeds of `RX_FEEDS` complete in every state that meets the invariant, one response a
byte. `RX_READFRAME` reads as far as the DATA of the last `FRAME_READY` response says, and on the frame that response
announced it returns the bytes of the frame in wire order and changes nothing. -/
def Obligations.PseudoInstructionsRunTheirExpansions : Prop :=
  (∀ (bytes : List Byte) (s : State),
    expandPseudo (.crc16 bytes) s = some (.crcInit :: (bytes.map .crcUpdate ++ [.crcRead]))) ∧
  (∀ (p : Half) (bytes : List Byte) (s : State),
    expandPseudo (.crc16Update p bytes) s = some (.crcSeed p :: (bytes.map .crcUpdate ++ [.crcRead]))) ∧
  (∀ (bytes : List Byte) (s : State), expandPseudo (.rxFeeds bytes) s = some (bytes.map .rxFeed)) ∧
  (∀ (n : Half) (before after : List Word) (s : State), n.toNat ≤ 250 →
    s.responses = before ++ responseWord .frameReady n :: after →
    (∀ w ∈ after, w.extractLsb' 24 8 ≠ (0x11 : Byte)) →
    expandPseudo .rxReadFrame s = some ((List.range (n.toNat + 6)).map (fun i => .rxRead (BitVec.ofNat 8 i)))) ∧
  (∀ (bytes : List Byte) (s : State), ∃ rs, rs.length = bytes.length + 1 ∧
    execAll (.crcInit :: (bytes.map .crcUpdate ++ [.crcRead])) s =
      .next { s with crcAcc := crc16 bytes, responses := s.responses ++ rs ++ [responseWord .ok (crc16 bytes)] }) ∧
  (∀ (p : Half) (bytes : List Byte) (s : State), ∃ rs, rs.length = bytes.length + 1 ∧
    execAll (.crcSeed p :: (bytes.map .crcUpdate ++ [.crcRead])) s =
      .next { s with
        crcAcc := crc16Update p bytes
        responses := s.responses ++ rs ++ [responseWord .ok (crc16Update p bytes)] }) ∧
  (∀ s : State, execAll [.crcInit, .crcRead] s =
    .next { s with crcAcc := 0xFFFF, responses := s.responses ++ [0x0000FFFF, 0x0000FFFF] }) ∧
  (∀ (bytes : List Byte) (s : State), BlockInv s → ∃ t rs,
    execAll (bytes.map .rxFeed) s = .next t ∧ t.responses = s.responses ++ rs ∧ rs.length = bytes.length) ∧
  ∀ s : State, s.frameValid = true → s.frameLen ≤ 250 → s.lastFrameReady = some s.frameLen →
    ∃ is, expandPseudo .rxReadFrame s = some is ∧
      execAll is s =
        .next { s with
          responses := s.responses ++ (s.fbBytes 0 (s.frameLen + 6)).map (fun v => responseWord .ok (zext16 v)) }

/-- R80, R81: the fields of a response word and the codes of the statuses; every command that completes returns exactly one
response, with a status that R81 gives it and the DATA 0 where its rule says none; each status of R81 is returned by the
commands it names, somewhere; and whatever word a step takes, its answer carries one of the listed codes. -/
def Obligations.ResponseWordLayout : Prop :=
  (∀ (st : Status) (d : Half),
    (responseWord st d).extractLsb' 24 8 = st.code ∧
    (responseWord st d).extractLsb' 16 8 = 0 ∧
    (responseWord st d).extractLsb' 0 16 = d) ∧
  Status.ok.code = 0x00 ∧ Status.incomplete.code = 0x10 ∧ Status.frameReady.code = 0x11 ∧
  Status.checksumMismatch.code = 0x12 ∧ Status.noFrame.code = 0x20 ∧ Status.outOfFrame.code = 0x21 ∧
  Status.payloadTooLarge.code = 0x30 ∧ Status.transportUnavailable.code = 0x31 ∧ Status.illegalCommand.code = 0xFF ∧
  (∀ (i : Instr) (s t : State), exec i s = .next t → ∃ st d, t.responses = s.responses ++ [responseWord st d] ∧
    match st with
    | .ok => (∀ b, i ≠ .rxFeed b) ∧ (i = .rxReset → d = 0)
    | .incomplete => (∃ b, i = .rxFeed b) ∧ d = 0
    | .frameReady => ∃ b, i = .rxFeed b
    | .checksumMismatch => (∃ b, i = .rxFeed b) ∧ d = 0
    | .noFrame => (∃ idx, i = .rxRead idx) ∧ d = 0
    | .outOfFrame => (∃ idx, i = .rxRead idx) ∧ d = 0
    | .payloadTooLarge => (∃ comp msg len, i = .txSend comp msg len) ∧ d = 0
    | .transportUnavailable => (∃ comp msg len, i = .txSend comp msg len) ∧ d = 0
    | .illegalCommand => False) ∧
  (CanAnswer .crcInit .ok ∧ (∀ h, CanAnswer (.crcSeed h) .ok) ∧ (∀ b, CanAnswer (.crcUpdate b) .ok) ∧
    CanAnswer .crcRead .ok ∧ CanAnswer .rxReset .ok ∧ (∀ idx, CanAnswer (.rxRead idx) .ok) ∧ CanAnswer .rxStatus .ok) ∧
  (∀ b, CanAnswer (.rxFeed b) .incomplete ∧ CanAnswer (.rxFeed b) .frameReady ∧ CanAnswer (.rxFeed b) .checksumMismatch) ∧
  (∀ idx : Byte, CanAnswer (.rxRead idx) .noFrame ∧ (6 ≤ idx.toNat → CanAnswer (.rxRead idx) .outOfFrame)) ∧
  (∀ comp msg len : Byte,
    (len.toNat ≤ 250 → CanAnswer (.txSend comp msg len) .ok ∧ CanAnswer (.txSend comp msg len) .transportUnavailable) ∧
    (250 < len.toNat → CanAnswer (.txSend comp msg len) .payloadTooLarge)) ∧
  ∀ (s t : State) (w : Word) (rest : List Word), s.commands = w :: rest → step s = .next t →
    ∃ r, t.responses = s.responses ++ [r] ∧
      r.extractLsb' 24 8 ∈ ([0x00, 0x10, 0x11, 0x12, 0x20, 0x21, 0x30, 0x31, 0xFF] : List Byte) ∧
      (r.extractLsb' 24 8 = (0xFF : Byte) ↔ ∃ e, decode w = .error e)

/-! ## The step (20_memory.md, 60_exceptions.md, 70_reset_and_hazards.md) -/

/-- A step executes the next command of the command stream, and a step with no command issued changes nothing (the latter
is the model's choice, log 4). -/
def Obligations.StepExecutesTheNextCommand : Prop :=
  (∀ (s : State) (w : Word) (rest : List Word) (i : Instr),
    s.commands = w :: rest → decode w = .ok i → step s = exec i { s with commands := rest }) ∧
  (∀ s : State, s.commands = [] → step s = .next s)

/-- Steps over a command stream are its commands executed in order: every run of `execAll` is a run of the machine. -/
def Obligations.StepsRunTheCommandsInOrder : Prop :=
  ∀ (is : List Instr) (s : State),
    stepMany is.length { s with commands := is.map encode ++ s.commands } = execAll is s

/-- R172: every command a step executes is answered by exactly one response, whose status the catalogue gives that
command; an illegal word by `ILLEGAL_COMMAND`. -/
def Obligations.OneResponsePerCommand : Prop :=
  ∀ (s t : State) (w : Word) (rest : List Word),
    s.commands = w :: rest → step s = .next t →
      t.commands = rest ∧
      ∃ st d, t.responses = s.responses ++ [responseWord st d] ∧
        match decode w with
        | .ok i => st ∈ statusesOf i
        | .error _ => st = .illegalCommand ∧ d = 0

/-- R193: no command changes the instance's `START_MARKER`, nor the host's binding of the transport; the three output
streams only grow. -/
def Obligations.StepKeepsConfigAndOutputs : Prop :=
  ∀ s t : State, step s = .next t →
    t.config = s.config ∧ t.transportBound = s.transportBound ∧
    s.responses <+: t.responses ∧ s.txStream <+: t.txStream ∧ s.allocCalls <+: t.allocCalls

/-- R190: the reset values. -/
def Obligations.ResetValues : Prop :=
  State.reset.crcAcc = 0xFFFF ∧ State.reset.rxState = awaitingStart ∧ State.reset.rxCrc = 0xFFFF ∧
  State.reset.rxCnt = 0 ∧ State.reset.frameValid = false ∧ State.reset.rxExp = 0

/-- R192: `RX_RESET` gives the RX registers their reset values and leaves `CRC_ACC` and `FB` alone, `CRC_INIT` gives
`CRC_ACC` its reset value, and the two in a row give every register its reset value and leave `FB` as it was. -/
def Obligations.PartialResets : Prop :=
  ∀ s : State,
    (∃ t, exec .rxReset s = .next t ∧
      t.rxState = State.reset.rxState ∧ t.rxCnt = State.reset.rxCnt ∧ t.rxExp = State.reset.rxExp ∧
      t.rxCrc = State.reset.rxCrc ∧ t.frameValid = State.reset.frameValid ∧ t.crcAcc = s.crcAcc ∧ t.fb = s.fb) ∧
    (∃ t, exec .crcInit s = .next t ∧ t.crcAcc = State.reset.crcAcc) ∧
    execAll [.rxReset, .crcInit] s =
      .next { s with
        crcAcc := State.reset.crcAcc, rxState := State.reset.rxState, rxCrc := State.reset.rxCrc
        rxCnt := State.reset.rxCnt, frameValid := State.reset.frameValid, rxExp := State.reset.rxExp
        responses := s.responses ++ [0x00000000, 0x0000FFFF] }

/-! ## The CRC function and the CRC unit (40_crc_engine.md) -/

/-- R100: the table has 256 entries, entry `i` is eight bits of the reflected division of `i`, and the listing of the spec
agrees with that. -/
def Obligations.CrcTableListing : Prop :=
  (∀ i : Byte, crcTableEntry i =
    (fun c : Half => if c.getLsbD 0 then (c >>> 1) ^^^ 0x8408 else c >>> 1)^[8] (i.setWidth 16)) ∧
  crcTableListed.length = 256 ∧
  ∀ i : Byte, crcTableListed[i.toNat]? = some (crcTableEntry i)

/-- R101: the table form and the bitwise form of the one-byte step agree for every accumulator and every byte. -/
def Obligations.CrcStepTableAndBitwiseFormsAgree : Prop :=
  ∀ (acc : Half) (b : Byte),
    crcStep acc b = (acc >>> 8) ^^^ crcTableEntry ((acc ^^^ b.setWidth 16).extractLsb' 0 8) ∧
    crcStep acc b =
      (fun c : Half => if c.getLsbD 0 then (c >>> 1) ^^^ 0x8408 else c >>> 1)^[8] (acc ^^^ b.setWidth 16)

/-- R102, R107: the whole-sequence CRC is the fold of the step from `0xFFFF`, with nothing after it; the chunking law, for
two chunks and for every way of cutting a sequence into chunks. -/
def Obligations.CrcChunking : Prop :=
  (∀ (p : Half) (b : Byte) (s : List Byte),
    crc16Update p [] = p ∧ crc16Update p (b :: s) = crc16Update (crcStep p b) s) ∧
  (∀ s : List Byte, crc16 s = crc16Update 0xFFFF s) ∧
  crc16 [] = 0xFFFF ∧
  (∀ (p : Half) (s t : List Byte), crc16Update (crc16Update p s) t = crc16Update p (s ++ t)) ∧
  ∀ chunks : List (List Byte), chunks.foldl crc16Update 0xFFFF = crc16 chunks.flatten

/-- R108: a sequence followed by its own checksum, low byte first, has CRC zero; and for two checksum bytes, the residue
test and the comparison of the RX unit give the same verdict. -/
def Obligations.CrcResidue : Prop :=
  (∀ s : List Byte, crc16 (s ++ [loByte (crc16 s), hiByte (crc16 s)]) = 0x0000) ∧
  crc16 [0x03, 0x01, 0x10, 0x11, 0x22, 0x33, 0x3A, 0x00] = 0x0000 ∧
  ∀ (s : List Byte) (lo hi : Byte), crc16 (s ++ [lo, hi]) = 0x0000 ↔ leHalf lo hi = crc16 s

/-- R109: flipping any single bit of the covered bytes changes the CRC. -/
def Obligations.CrcDetectsEverySingleBitError : Prop :=
  ∀ (bytes : List Byte) (pos bit : Nat), pos < bytes.length → bit < 8 →
    crc16 (flipAt bytes pos bit) ≠ crc16 bytes

/-- R103: `CRC_INIT`, from every state. -/
def Obligations.CrcInitResult : Prop :=
  ∀ s : State, exec .crcInit s = .next { s with crcAcc := 0xFFFF, responses := s.responses ++ [0x0000FFFF] }

/-- R104: `CRC_SEED h`, from every state; seeding `0xFFFF` is `CRC_INIT`; a zero seed gives the Kermit-style value. -/
def Obligations.CrcSeedResult : Prop :=
  (∀ (h : Half) (s : State),
    exec (.crcSeed h) s = .next { s with crcAcc := h, responses := s.responses ++ [responseWord .ok h] }) ∧
  (∀ s : State, exec (.crcSeed 0xFFFF) s = exec .crcInit s) ∧
  crc16Update 0x0000 [0x31, 0x32, 0x33, 0x34, 0x35, 0x36, 0x37, 0x38, 0x39] = 0x2189 ∧
  responseWord .ok 0x8B13 = 0x00008B13

/-- R105: `CRC_UPDATE b`, from every state, with the corner cases the rule lists (but for its remark on fixed points, log
21). -/
def Obligations.CrcUpdateResult : Prop :=
  (∀ (b : Byte) (s : State),
    exec (.crcUpdate b) s =
      .next { s with
        crcAcc := crcStep s.crcAcc b
        responses := s.responses ++ [responseWord .ok (crcStep s.crcAcc b)] }) ∧
  crcStep 0xFFFF 0x00 = 0x0F87 ∧ crcStep 0xFFFF 0xFF = 0x00FF ∧ crcStep 0xFFFF 0x31 = 0x2F8D ∧
  ∀ s : List Byte, crc16 (s ++ [loByte (crc16 s), hiByte (crc16 s)]) = 0x0000

/-- The accumulators that a zero byte leaves alone, by the step of R101. R105 remarks that `0x0000` is the only one; the
step R101 defines has a second, `0xF80F`, and the model follows R101 (log 21). -/
def Obligations.CrcStepFixedPointsAtByteZero : Prop :=
  ∀ acc : Half, crcStep acc 0x00 = acc ↔ acc = 0x0000 ∨ acc = 0xF80F

/-- R106: `CRC_READ`, from every state: it returns the accumulator and changes nothing; after reset it returns `0xFFFF`;
after `CRC_INIT` and the updates of "123456789" it returns `0x6F91`. -/
def Obligations.CrcReadResult : Prop :=
  (∀ s : State, exec .crcRead s = .next { s with responses := s.responses ++ [responseWord .ok s.crcAcc] }) ∧
  exec .crcRead State.reset = .next { State.reset with responses := [0x0000FFFF] } ∧
  ∀ s : State, ∃ rs,
    execAll (.crcInit :: ([0x31, 0x32, 0x33, 0x34, 0x35, 0x36, 0x37, 0x38, 0x39].map .crcUpdate ++ [.crcRead])) s =
      .next { s with crcAcc := 0x6F91, responses := s.responses ++ rs ++ [0x00006F91] }

/-- R21, R48: only `CRC_INIT`, `CRC_SEED` and `CRC_UPDATE` write `CRC_ACC`, and no RX or TX command reads it. -/
def Obligations.CrcAccBelongsToTheCrcUnit : Prop :=
  (∀ (i : Instr) (s t : State), exec i s = .next t →
    i = .crcInit ∨ (∃ h, i = .crcSeed h) ∨ (∃ b, i = .crcUpdate b) ∨ t.crcAcc = s.crcAcc) ∧
  ∀ (i : Instr) (s : State) (v : Half), unitOf i ≠ .crc →
    exec i { s with crcAcc := v } = andThen (exec i s) (fun t => .next { t with crcAcc := v })

/-! ## The RX unit (41_rx_frame_fsm.md) -/

/-- R120: `RX_RESET`, from every state; `FB` is not written. -/
def Obligations.RxResetResult : Prop :=
  ∀ s : State, exec .rxReset s =
    .next { s with
      rxState := 0, rxCnt := 0, rxExp := 0, rxCrc := 0xFFFF, frameValid := false
      responses := s.responses ++ [0x00000000] }

/-- R122: a byte in AwaitingStart. -/
def Obligations.RxFeedAwaitingStart : Prop :=
  ∀ (b : Byte) (s : State), s.rxState = awaitingStart →
    exec (.rxFeed b) s =
      .next (if b = s.config.startMarker then
        { s with
          frameValid := false, fb := s.fb.write 0 b, rxCrc := 0xFFFF, rxCnt := 0, rxState := awaitingHeader
          responses := s.responses ++ [0x10000000] }
      else { s with frameValid := false, responses := s.responses ++ [0x10000000] })

/-- R123: a payload length above 250 drops the frame, writes no cell and neither `RX_CRC` nor `RX_EXP`, and is consumed. -/
def Obligations.RxFeedIllegalLength : Prop :=
  ∀ (b : Byte) (s : State), s.rxState = awaitingHeader → s.rxCnt = 0 → 250 < b.toNat →
    exec (.rxFeed b) s =
      .next { s with
        frameValid := false, rxState := awaitingStart, rxCnt := 0, responses := s.responses ++ [0x10000000] }

/-- R124, R125: a header byte is written to `FB[1 + RX_CNT]` and folded, whatever its value, a marker byte included; the
third one ends the header. -/
def Obligations.RxFeedAwaitingHeader : Prop :=
  (∀ (b : Byte) (s : State), s.rxState = awaitingHeader → s.rxCnt.toNat < 2 → (s.rxCnt = 0 → b.toNat ≤ 250) →
    exec (.rxFeed b) s =
      .next { s with
        frameValid := false, fb := s.fb.write (1 + s.rxCnt.toNat) b, rxCrc := crcStep s.rxCrc b
        rxCnt := s.rxCnt + 1, responses := s.responses ++ [0x10000000] }) ∧
  ∀ (b : Byte) (s : State), s.rxState = awaitingHeader → s.rxCnt = 2 → s.frameLen ≤ 250 →
    exec (.rxFeed b) s =
      .next { s with
        frameValid := false, fb := s.fb.write 3 b, rxCrc := crcStep s.rxCrc b
        rxExp := BitVec.ofNat 8 (3 + s.frameLen + 2), rxCnt := 0, rxState := awaitingBody
        responses := s.responses ++ [0x10000000] }

/-- R126, R127: a body byte is written to `FB[4 + RX_CNT]`, and folded only if it is a payload byte. The byte that completes
the frame compares the received checksum, low byte first, with `RX_CRC`, which is then the CRC of the length, the ids and the
payload: `FRAME_READY` with N, or `CHECKSUM_MISMATCH`, and either way the unit is back in AwaitingStart. -/
def Obligations.RxFeedAwaitingBody : Prop :=
  (∀ (b : Byte) (s : State), s.rxState = awaitingBody → s.frameLen ≤ 250 → s.rxExp.toNat = 3 + s.frameLen + 2 →
    s.rxCnt.toNat ≤ s.frameLen →
    exec (.rxFeed b) s =
      .next { s with
        frameValid := false, fb := s.fb.write (4 + s.rxCnt.toNat) b
        rxCrc := if s.rxCnt.toNat < s.frameLen then crcStep s.rxCrc b else s.rxCrc
        rxCnt := s.rxCnt + 1, responses := s.responses ++ [0x10000000] }) ∧
  (∀ (b : Byte) (s : State), s.rxState = awaitingBody → s.frameLen ≤ 250 → s.rxExp.toNat = 3 + s.frameLen + 2 →
    s.rxCnt.toNat = s.frameLen + 1 →
    exec (.rxFeed b) s =
      .next (if leHalf (s.fb.read (4 + s.frameLen)) b = s.rxCrc then
        { s with
          frameValid := true, fb := s.fb.write (5 + s.frameLen) b, rxState := awaitingStart, rxCnt := 0
          responses := s.responses ++ [responseWord .frameReady (BitVec.ofNat 16 s.frameLen)] }
      else
        { s with
          frameValid := false, fb := s.fb.write (5 + s.frameLen) b, rxState := awaitingStart, rxCnt := 0
          responses := s.responses ++ [0x12000000] })) ∧
  ∀ s : State, BlockInv s → s.rxState = awaitingBody → s.rxCnt.toNat = s.frameLen + 1 →
    s.rxCrc = crc16 (s.fbBytes 1 (3 + s.frameLen))

/-- In every state that meets the invariant, `RX_FEED` completes for every byte, with one of its three outcomes. -/
def Obligations.RxFeedAlwaysCompletes : Prop :=
  ∀ (b : Byte) (s : State), BlockInv s → ∃ t, exec (.rxFeed b) s = .next t ∧
    (t.responses = s.responses ++ [0x10000000] ∨
      t.responses = s.responses ++ [responseWord .frameReady (BitVec.ofNat 16 t.frameLen)] ∨
      t.responses = s.responses ++ [0x12000000])

/-- Where `RX_FEED` stops: `RX_STATE = 3` has no step (93 I9); a cell above 255 does not exist, be it the cell of the byte or
the last checksum cell of a frame whose length is above 250; a length above 250 at the end of the header does not fit
`RX_EXP` (the model's faults, log 9, 10 and 11). And it stops only in states that R30 rules out. -/
def Obligations.RxFeedFaultsOnIllFormedStates : Prop :=
  (∀ (b : Byte) (s : State), s.rxState = 3 → exec (.rxFeed b) s = .fault .rxStateIllFormed) ∧
  (∀ (b : Byte) (s : State), s.rxState = awaitingHeader → s.rxCnt.toNat = 255 →
    exec (.rxFeed b) s = .fault .fbIndexOutOfRange) ∧
  (∀ (b : Byte) (s : State), s.rxState = awaitingBody → 252 ≤ s.rxCnt.toNat →
    exec (.rxFeed b) s = .fault .fbIndexOutOfRange) ∧
  (∀ (b : Byte) (s : State), s.rxState = awaitingBody → 3 + (s.rxCnt.toNat + 1) = s.rxExp.toNat → 250 < s.frameLen →
    exec (.rxFeed b) s = .fault .fbIndexOutOfRange) ∧
  (∀ (b : Byte) (s : State), s.rxState = awaitingHeader → s.rxCnt = 2 → 250 < s.frameLen →
    exec (.rxFeed b) s = .fault .rxExpOutOfRange) ∧
  ∀ (b : Byte) (s : State) (r : Fault), exec (.rxFeed b) s = .fault r → ¬ BlockInv s

/-- The frame of `RX_FEED`: it stores to the one cell `rxFeedStores` computes, or to none, and leaves the CRC unit, the
host's inputs and the TX frame stream alone. -/
def Obligations.RxFeedFrame : Prop :=
  ∀ (b : Byte) (s t : State), exec (.rxFeed b) s = .next t →
    t.crcAcc = s.crcAcc ∧ t.config = s.config ∧ t.commands = s.commands ∧ t.transportBound = s.transportBound ∧
    t.allocAnswers = s.allocAnswers ∧ t.allocCalls = s.allocCalls ∧ t.payload = s.payload ∧ t.txStream = s.txStream ∧
    (∃ r, t.responses = s.responses ++ [r]) ∧
    (∀ a, rxFeedStores b s = some a → t.fb.read a = b) ∧
    (∀ a, rxFeedStores b s ≠ some a → t.fb.read a = s.fb.read a)

/-- The buffer never overflows: in every state that meets the invariant, the cell a feed stores to is one of 0 to 255, and
it is the wire offset of the byte (R13, R52, R126). -/
def Obligations.RxFeedStoresInsideTheBuffer : Prop :=
  ∀ (b : Byte) (s : State) (a : Nat), BlockInv s → rxFeedStores b s = some a →
    a ≤ 255 ∧ (s.rxState = awaitingStart → a = 0) ∧ (s.rxState = awaitingHeader → a = 1 + s.rxCnt.toNat ∧ a ≤ 3) ∧
    (s.rxState = awaitingBody → a = 4 + s.rxCnt.toNat ∧ a ≤ 5 + s.frameLen)

/-- R25: what every command does to `FRAME_VALID`: a feed leaves it set only when it answers `FRAME_READY`, `RX_RESET`
clears it, and no other command changes it. -/
def Obligations.FrameValidRule : Prop :=
  ∀ (i : Instr) (s t : State), exec i s = .next t →
    match i with
    | .rxFeed _ =>
      t.frameValid = true ↔ t.responses = s.responses ++ [responseWord .frameReady (BitVec.ofNat 16 s.frameLen)]
    | .rxReset => t.frameValid = false
    | _ => t.frameValid = s.frameValid

/-- R137: only `RX_FEED` and `RX_RESET` move the RX unit, and `RX_RESET` leaves the buffer alone (R120). -/
def Obligations.OnlyFeedAndResetMoveTheRxUnit : Prop :=
  (∀ (i : Instr) (s t : State), exec i s = .next t → (∀ b, i ≠ .rxFeed b) → i ≠ .rxReset → t.withRxOf s = t) ∧
  (∀ (i : Instr) (s t : State), exec i s = .next t → (∀ b, i ≠ .rxFeed b) → t.fb = s.fb)

/-- R62, R123, R126: in a frame, only a payload length above 250 or the byte that completes the frame returns the unit to
AwaitingStart; every other byte, a marker byte included, moves the frame on by one byte: the count goes up by one, or the
third header byte begins the body. -/
def Obligations.OnlyTheseBytesEndAFrame : Prop :=
  ∀ (b : Byte) (s t : State), BlockInv s → s.rxState ≠ awaitingStart → exec (.rxFeed b) s = .next t →
    (t.rxState = awaitingStart →
      (s.rxState = awaitingHeader ∧ s.rxCnt = 0 ∧ 250 < b.toNat) ∨
      (s.rxState = awaitingBody ∧ s.rxCnt.toNat = s.frameLen + 1)) ∧
    (t.rxState ≠ awaitingStart →
      (s.rxState = awaitingHeader ∧ s.rxCnt.toNat < 2 ∧ t.rxState = awaitingHeader ∧ t.rxCnt = s.rxCnt + 1) ∨
      (s.rxState = awaitingHeader ∧ s.rxCnt = 2 ∧ t.rxState = awaitingBody ∧ t.rxCnt = 0) ∨
      (s.rxState = awaitingBody ∧ s.rxCnt.toNat ≤ s.frameLen ∧ t.rxState = awaitingBody ∧ t.rxCnt = s.rxCnt + 1))

/-- R128: `RX_READ i`, from every state, its three answers in the order of R175; nothing else changes. Index 0 of a readable
frame is the start marker. -/
def Obligations.RxReadResult : Prop :=
  (∀ s : State, BlockInv s → s.frameValid = true →
    exec (.rxRead 0) s = .next { s with responses := s.responses ++ [responseWord .ok (zext16 s.config.startMarker)] }) ∧
  ∀ (i : Byte) (s : State),
    (s.frameValid = false → exec (.rxRead i) s = .next { s with responses := s.responses ++ [0x20000000] }) ∧
    (s.frameValid = true → s.frameLen + 6 ≤ i.toNat →
      exec (.rxRead i) s = .next { s with responses := s.responses ++ [0x21000000] }) ∧
    (s.frameValid = true → i.toNat < s.frameLen + 6 →
      exec (.rxRead i) s =
        .next { s with responses := s.responses ++ [responseWord .ok (zext16 (s.fb.read i.toNat))] })

/-- R29, R129: `RX_STATUS`, from every state: the fields of `RXSR`, nothing else changes, and the listed corner cases. -/
def Obligations.RxStatusResult : Prop :=
  (∀ s : State, ∃ d : Half,
    exec .rxStatus s = .next { s with responses := s.responses ++ [responseWord .ok d] } ∧
    d.extractLsb' 0 2 = s.rxState ∧ d.getLsbD 2 = s.frameValid ∧ d.extractLsb' 3 5 = 0 ∧
    d.extractLsb' 8 8 = s.rxCnt) ∧
  exec .rxStatus State.reset = .next { State.reset with responses := [0x00000000] } ∧
  (∀ s : State, s.rxState = awaitingStart → s.rxCnt = 0 → s.frameValid = true →
    exec .rxStatus s = .next { s with responses := s.responses ++ [0x00000004] }) ∧
  (∀ s : State, s.rxState = awaitingHeader → s.rxCnt = 2 → s.frameValid = false →
    exec .rxStatus s = .next { s with responses := s.responses ++ [0x00000201] })

/-! ## Byte streams (41_rx_frame_fsm.md R130 to R135) -/

/-- R130: a well-formed frame fed from AwaitingStart answers `INCOMPLETE` on its first N + 5 bytes and `FRAME_READY` with N
on byte N + 6; with a wrong checksum it answers `CHECKSUM_MISMATCH` there instead. -/
def Obligations.FrameTiming : Prop :=
  ∀ (comp msg : Byte) (payload : List Byte) (s : State), s.rxState = awaitingStart → payload.length ≤ 250 →
    (∃ t, feedAll (wireFrame s.config.startMarker comp msg payload) s = .next t ∧
      t.responses = s.responses ++ List.replicate (payload.length + 5) 0x10000000 ++
        [responseWord .frameReady (BitVec.ofNat 16 payload.length)] ∧
      t.frameValid = true ∧ t.rxState = awaitingStart) ∧
    ∀ lo hi : Byte, leHalf lo hi ≠ frameCrc comp msg payload →
      ∃ t, feedAll (wireBody s.config.startMarker comp msg payload ++ [lo, hi]) s = .next t ∧
        t.responses = s.responses ++ List.replicate (payload.length + 5) 0x10000000 ++ [0x12000000] ∧
        t.frameValid = false ∧ t.rxState = awaitingStart

/-- R131: noise in AwaitingStart answers `INCOMPLETE` and changes nothing but `FRAME_VALID`; no cell is written. -/
def Obligations.NoiseChangesNothing : Prop :=
  ∀ (bytes : List Byte) (s : State), s.rxState = awaitingStart → (∀ b ∈ bytes, b ≠ s.config.startMarker) →
    feedAll bytes s =
      .next { s with
        frameValid := if bytes = [] then s.frameValid else false
        responses := s.responses ++ List.replicate bytes.length 0x10000000 }

/-- R132: whatever checksum a frame ends with, a frame may follow it with no gap, or after noise. -/
def Obligations.BackToBackFrames : Prop :=
  ∀ (c₁ m₁ c₂ m₂ lo hi : Byte) (p₁ p₂ noise : List Byte) (s : State), s.rxState = awaitingStart →
    p₁.length ≤ 250 → p₂.length ≤ 250 → (∀ b ∈ noise, b ≠ s.config.startMarker) →
    ∃ t, feedAll (wireBody s.config.startMarker c₁ m₁ p₁ ++ [lo, hi] ++ noise ++ wireFrame s.config.startMarker c₂ m₂ p₂) s =
        .next t ∧
      t.responses = s.responses ++ List.replicate (p₁.length + 5) 0x10000000 ++
        [if leHalf lo hi = frameCrc c₁ m₁ p₁ then responseWord .frameReady (BitVec.ofNat 16 p₁.length) else 0x12000000] ++
        List.replicate (noise.length + p₂.length + 5) 0x10000000 ++
        [responseWord .frameReady (BitVec.ofNat 16 p₂.length)]

/-- R134, the component id, the message id, the payload and the checksum: any single bit of wire bytes 2 to 5 + N flipped
makes the frame answer `INCOMPLETE` N + 5 times and then `CHECKSUM_MISMATCH`. -/
def Obligations.SingleBitErrorIsDetected : Prop :=
  ∀ (comp msg : Byte) (payload : List Byte) (pos bit : Nat) (s : State),
    s.rxState = awaitingStart → payload.length ≤ 250 → 2 ≤ pos → pos ≤ payload.length + 5 → bit < 8 →
    ∃ t, feedAll (flipAt (wireFrame s.config.startMarker comp msg payload) pos bit) s = .next t ∧
      t.responses = s.responses ++ List.replicate (payload.length + 5) 0x10000000 ++ [0x12000000] ∧
      t.frameValid = false ∧ t.rxState = awaitingStart

/-- R134, the marker and the length byte: a flipped marker is noise. A length flipped to N' above 250 is dropped; to N'
above N, the frame ends with the unit still in AwaitingBody, every answer `INCOMPLETE`; to N' below N, the unit completes
on the (N' + 6)-th byte. -/
def Obligations.MarkerOrLengthBitError : Prop :=
  ∀ (comp msg : Byte) (payload : List Byte) (bit : Nat) (s : State),
    s.rxState = awaitingStart → payload.length ≤ 250 → bit < 8 →
    let bytes := flipAt (wireFrame s.config.startMarker comp msg payload) 1 bit
    let n' := (flipBit (BitVec.ofNat 8 payload.length) bit).toNat
    (∃ t, feedAll ((flipAt (wireFrame s.config.startMarker comp msg payload) 0 bit).take 1) s = .next t ∧
      t.rxState = awaitingStart ∧ t.responses = s.responses ++ [0x10000000]) ∧
    (250 < n' → ∃ t, feedAll (bytes.take 2) s = .next t ∧ t.rxState = awaitingStart ∧
      t.responses = s.responses ++ List.replicate 2 0x10000000) ∧
    (payload.length < n' → n' ≤ 250 → ∃ t, feedAll bytes s = .next t ∧ t.rxState = awaitingBody ∧
      t.responses = s.responses ++ List.replicate (payload.length + 6) 0x10000000) ∧
    (n' < payload.length → ∃ t, feedAll (bytes.take (n' + 6)) s = .next t ∧ t.rxState = awaitingStart ∧
      ∃ r, t.responses = s.responses ++ List.replicate (n' + 5) 0x10000000 ++ [r] ∧
        (r = responseWord .frameReady (BitVec.ofNat 16 n') ∨ r = 0x12000000))

/-- R135: the round trip. The frame a successful `TX_SEND` enqueues, fed to a unit in AwaitingStart with the same marker,
answers `INCOMPLETE` on its first N + 5 bytes and `FRAME_READY` with N on the last, and the buffer then holds the component
id, the message id and the payload that were sent. A unit that is not in AwaitingStart need not answer so. -/
def Obligations.TransmitReceiveRoundTrip : Prop :=
  (∀ (comp msg len : Byte) (s t r : State) (frame payload rest : List Byte),
    exec (.txSend comp msg len) s = .next t → t.txStream = s.txStream ++ [frame] →
    s.payload = payload ++ rest → payload.length = len.toNat →
    r.rxState = awaitingStart → r.config = s.config →
    ∃ u, feedAll frame r = .next u ∧
      u.responses = r.responses ++ List.replicate (len.toNat + 5) 0x10000000 ++
        [responseWord .frameReady (zext16 len)] ∧
      u.frameValid = true ∧ u.frameLen = len.toNat ∧ u.fb.read 2 = comp ∧ u.fb.read 3 = msg ∧
      u.fbBytes 4 len.toNat = payload) ∧
  ∃ (frame : List Byte) (s t r u : State),
    exec (.txSend 0 0 0) s = .next t ∧ t.txStream = s.txStream ++ [frame] ∧ BlockInv r ∧ r.config = s.config ∧
      r.rxState ≠ awaitingStart ∧ feedAll frame r = .next u ∧ u.frameValid = false

/-! ## The TX unit (42_tx_serializer.md) -/

/-- R154 with R153: the two failures of `TX_SEND`, the length checked first; nothing is enqueued and no payload byte is
read. A length above 250 never reaches `HostAlloc`; an unbound transport always denies (R193). -/
def Obligations.TxSendFailures : Prop :=
  (∀ (comp msg len : Byte) (s : State), 250 < len.toNat →
    exec (.txSend comp msg len) s = .next { s with responses := s.responses ++ [0x30000000] }) ∧
  (∀ (comp msg len : Byte) (s : State), len.toNat ≤ 250 → s.transportBound = false →
    exec (.txSend comp msg len) s =
      .next { s with allocCalls := s.allocCalls ++ [len.toNat + 6], responses := s.responses ++ [0x31000000] }) ∧
  (∀ (comp msg len : Byte) (s : State) (answers : List AllocAnswer), len.toNat ≤ 250 → s.transportBound = true →
    s.allocAnswers = .denied :: answers →
    exec (.txSend comp msg len) s =
      .next { s with
        allocAnswers := answers, allocCalls := s.allocCalls ++ [len.toNat + 6]
        responses := s.responses ++ [0x31000000] })

/-- R151: a granted `TX_SEND` enqueues exactly the wire frame of its operands and its payload, answers `OK` with the
checksum, reads exactly N payload bytes, and changes nothing else. -/
def Obligations.TxSendEnqueuesTheWireFrame : Prop :=
  ∀ (comp msg len : Byte) (payload rest : List Byte) (answers : List AllocAnswer) (s : State),
    len.toNat ≤ 250 → payload.length = len.toNat → s.payload = payload ++ rest →
    s.transportBound = true → s.allocAnswers = .granted :: answers →
    let c := crc16 (len :: comp :: msg :: payload)
    exec (.txSend comp msg len) s =
      .next { s with
        allocAnswers := answers, allocCalls := s.allocCalls ++ [len.toNat + 6], payload := rest
        txStream := s.txStream ++
          [s.config.startMarker :: len :: comp :: msg :: (payload ++ [c.extractLsb' 0 8, c.extractLsb' 8 8])]
        responses := s.responses ++ [responseWord .ok c] }

/-- A granted `TX_SEND` whose payload the host does not supply is refused: the model has no move for a host that breaks its
duty (R55, R56; the model's refusal, log 7). -/
def Obligations.TxSendWithoutPayloadIsRefused : Prop :=
  ∀ (comp msg len : Byte) (answers : List AllocAnswer) (s : State),
    len.toNat ≤ 250 → s.payload.length < len.toNat → s.transportBound = true → s.allocAnswers = .granted :: answers →
    exec (.txSend comp msg len) s = .refused .payloadNotSupplied

/-- R155: whatever `TX_SEND` answers, it neither reads nor disturbs the CRC unit or the RX unit, and it enqueues a frame only
when it answers `OK`. -/
def Obligations.TxSendDisturbsNoOtherUnit : Prop :=
  (∀ (comp msg len : Byte) (s t : State), exec (.txSend comp msg len) s = .next t →
    t.crcAcc = s.crcAcc ∧ t.withRxOf s = t ∧ t.config = s.config ∧ t.commands = s.commands ∧
    t.transportBound = s.transportBound ∧
    ∃ st d, t.responses = s.responses ++ [responseWord st d] ∧
      ((st = .ok ∧ ∃ f, t.txStream = s.txStream ++ [f] ∧ f.length = len.toNat + 6 ∧
          s.payload = f.extract 4 (4 + len.toNat) ++ t.payload) ∨
        (st ≠ .ok ∧ t.txStream = s.txStream ∧ t.payload = s.payload))) ∧
  ∀ (comp msg len : Byte) (acc : Half) (r s : State),
    exec (.txSend comp msg len) ({ s with crcAcc := acc }.withRxOf r) =
      andThen (exec (.txSend comp msg len) s) (fun t => .next ({ t with crcAcc := acc }.withRxOf r))

/-- R156: the DATA of a successful `TX_SEND` is the result of `CRC16 N, comp, msg, P[0], ..., P[N-1]` run on the CRC unit. -/
def Obligations.TxChecksumIsTheCrcUnits : Prop :=
  ∀ (comp msg len : Byte) (payload rest : List Byte) (answers : List AllocAnswer) (s u : State),
    len.toNat ≤ 250 → payload.length = len.toNat → s.payload = payload ++ rest →
    s.transportBound = true → s.allocAnswers = .granted :: answers →
    ∃ d t is v, exec (.txSend comp msg len) s = .next t ∧ t.responses = s.responses ++ [responseWord .ok d] ∧
      expandPseudo (.crc16 (len :: comp :: msg :: payload)) u = some is ∧ execAll is u = .next v ∧
      v.responses.getLast? = some (responseWord .ok d)

/-! ## Order and independence (20_memory.md R46, R48) -/

/-- R46: `CRC_READ`, `RX_READ` and `RX_STATUS` change no state, so repeating one returns the same response. -/
def Obligations.ReadsAreIdempotent : Prop :=
  ∀ (i : Instr) (s : State), (i = .crcRead ∨ (∃ idx, i = .rxRead idx) ∨ i = .rxStatus) →
    ∃ r, exec i s = .next { s with responses := s.responses ++ [r] } ∧
      execAll [i, i] s = .next { s with responses := s.responses ++ [r, r] }

/-- R48: two adjacent commands addressed to different units commute: swapping them changes neither response nor the final
state. -/
def Obligations.CommandsToDifferentUnitsCommute : Prop :=
  ∀ (i j : Instr) (s t : State), unitOf i ≠ unitOf j → execAll [i, j] s = .next t →
    ∃ ri rj, t.responses = s.responses ++ [ri, rj] ∧
      execAll [j, i] s = .next { t with responses := s.responses ++ [rj, ri] }

/-! ## Memory and invariants (10_state.md R27, R30, R31) -/

/-- The frame buffer as a byte space: a read after a write, at the address written and at every other; and in canonical
form, buffers that read alike are equal data. -/
def Obligations.ByteSpaceLaws : Prop :=
  (∀ (m : Memory) (a x : Nat) (v : Byte), (m.write a v).read x = if x = a then v else m.read x) ∧
  (∀ m m' : Memory, m.wf = true → m'.wf = true → (∀ a, m.read a = m'.read a) → m = m')

/-- Every step keeps the frame buffer in canonical form. -/
def Obligations.StepKeepsTheBufferCanonical : Prop :=
  ∀ s t : State, s.fb.wf = true → step s = .next t → t.fb.wf = true

/-- The invariant holds at reset. -/
def Obligations.InvAtReset : Prop := BlockInv State.reset

/-- R30: every step keeps the invariant of reachable states. -/
def Obligations.StepKeepsInv : Prop :=
  ∀ s t : State, BlockInv s → step s = .next t → BlockInv t

/-- In every state that meets the invariant, the block takes a step, except for a granted `TX_SEND` whose payload the host
has not supplied. -/
def Obligations.InvStatesNeverFault : Prop :=
  ∀ s : State, BlockInv s →
    (∃ t, step s = .next t) ∨
    (step s = .refused .payloadNotSupplied ∧
      ∃ comp msg len rest answers, s.commands = encode (.txSend comp msg len) :: rest ∧ len.toNat ≤ 250 ∧
        s.payload.length < len.toNat ∧ s.transportBound = true ∧ s.allocAnswers = .granted :: answers)

/-- R27, R31: no command can observe a cell of `FB` that nothing can reach, nor `RX_CRC` in AwaitingStart, nor `RX_EXP`
outside AwaitingBody: two states that differ only there answer every command alike, and stay alike. So the contents of `FB`
after reset, which the spec leaves open (log 2), do not matter. -/
def Obligations.HiddenStateIsUnobservable : Prop :=
  ∀ s t : State, BlockInv s → BlockInv t → LooksAlike s t →
    match step s, step t with
    | .next s', .next t' => LooksAlike s' t'
    | .refused r, .refused r' => r = r'
    | _, _ => False

/-- While a frame is readable, the DATA of the last `FRAME_READY` response is its payload length, so `RX_READFRAME` (R86)
reads exactly that frame: every step keeps this, from every state in which it holds. (At reset no frame is readable.) -/
def Obligations.AnnouncedLengthIsTheFramesLength : Prop :=
  ∀ s t : State, (s.frameValid = true → s.lastFrameReady = some s.frameLen) → step s = .next t →
    t.frameValid = true → t.lastFrameReady = some t.frameLen
end

