-- ==== Sys2Proof/Laws/Crc.lean ====
section
/-! SUPPORT. The fold laws of the CRC function. -/

namespace Sys2Proof.Machine

@[simp] theorem crc16Update_nil (p : Half) : crc16Update p [] = p := rfl

@[simp] theorem crc16Update_cons (p : Half) (b : Byte) (s : List Byte) :
    crc16Update p (b :: s) = crc16Update (crcStep p b) s := rfl

/-- One more byte at the end is one more step: what `RX_CRC` does as bytes arrive. -/
theorem crc16_concat (s : List Byte) (b : Byte) : crc16 (s ++ [b]) = crcStep (crc16 s) b := by
  simp [crc16, crc16Update]

end Sys2Proof.Machine
end

