-- ==== Sys2Proof/Laws/Memory.lean ====
section
/-! SUPPORT. The laws of a byte space: reading after a write, and the canonical form. -/

namespace Sys2Proof.Machine

theorem Memory.read_erase (m : Memory) (a x : Nat) : (m.erase a).read x = if x = a then blankByte else m.read x := by
  induction m with
  | nil => simp [Memory.erase, Memory.read]
  | cons c m ih =>
    simp only [Memory.erase, List.filter_cons] at ih ⊢
    by_cases hc : c.1 = a <;> by_cases hx : x = a <;> simp_all [Memory.read]
    intro h; omega

theorem Memory.read_insert (m : Memory) (a x : Nat) (v : Byte) (h : ∀ c ∈ m, c.1 ≠ a) :
    (m.insert a v).read x = if x = a then v else m.read x := by
  induction m with
  | nil => simp [Memory.insert, Memory.read, eq_comm]
  | cons c m ih =>
    have hc : c.1 ≠ a := h c (by simp)
    have ih := ih (fun d hd => h d (by simp [hd]))
    simp only [Memory.insert]
    split
    · simp [Memory.read, eq_comm]
    · simp only [Memory.read, ih]
      by_cases hx : x = a <;> simp_all

/-- Reading after a write: the byte written at its address, every other byte as before. -/
@[simp] theorem Memory.read_write (m : Memory) (a x : Nat) (v : Byte) :
    (m.write a v).read x = if x = a then v else m.read x := by
  unfold Memory.write
  split
  · rename_i h; subst h; exact Memory.read_erase m a x
  · rw [Memory.read_insert _ _ _ _ (by intro c hc; simpa [Memory.erase] using (List.mem_filter.mp hc).2), Memory.read_erase]
    split <;> simp_all

@[simp] theorem Memory.read_nil (a : Nat) : Memory.read [] a = blankByte := rfl

theorem Memory.canonicalFrom_mono {lo lo' hi : Nat} {m : Memory} (h : m.canonicalFrom lo hi = true) (hle : lo' ≤ lo) :
    m.canonicalFrom lo' hi = true := by
  cases m with
  | nil => rfl
  | cons c m =>
    simp only [Memory.canonicalFrom, Bool.and_eq_true, decide_eq_true_eq] at h ⊢
    exact ⟨⟨⟨hle.trans h.1.1.1, h.1.1.2⟩, h.1.2⟩, h.2⟩

theorem Memory.canonicalFrom_erase {lo hi : Nat} {m : Memory} (a : Nat) (h : m.canonicalFrom lo hi = true) :
    (m.erase a).canonicalFrom lo hi = true := by
  induction m generalizing lo with
  | nil => rfl
  | cons c m ih =>
    simp only [Memory.canonicalFrom, Bool.and_eq_true, decide_eq_true_eq] at h
    simp only [Memory.erase, List.filter_cons] at ih ⊢
    split
    · simp only [Memory.canonicalFrom, Bool.and_eq_true, decide_eq_true_eq]; exact ⟨h.1, ih h.2⟩
    · exact Memory.canonicalFrom_mono (ih h.2) (by omega)

theorem Memory.canonicalFrom_insert {lo hi a : Nat} {m : Memory} {v : Byte} (hm : ∀ c ∈ m, c.1 ≠ a) (hlo : lo ≤ a)
    (hhi : a < hi) (hv : v ≠ blankByte) (h : m.canonicalFrom lo hi = true) :
    (m.insert a v).canonicalFrom lo hi = true := by
  induction m generalizing lo with
  | nil => simp [Memory.insert, Memory.canonicalFrom, hlo, hhi, hv]
  | cons c m ih =>
    have hc : c.1 ≠ a := hm c (by simp)
    simp only [Memory.canonicalFrom, Bool.and_eq_true, decide_eq_true_eq, bne_iff_ne, ne_eq] at h
    simp only [Memory.insert]
    split
    · simp only [Memory.canonicalFrom, Bool.and_eq_true, decide_eq_true_eq, bne_iff_ne, ne_eq]
      exact ⟨⟨⟨hlo, hhi⟩, hv⟩, ⟨⟨by omega, h.1.1.2⟩, h.1.2⟩, h.2⟩
    · simp only [Memory.canonicalFrom, Bool.and_eq_true, decide_eq_true_eq, bne_iff_ne, ne_eq]
      exact ⟨h.1, ih (fun d hd => hm d (by simp [hd])) (by omega) h.2⟩

/-- A write to a cell of the buffer keeps the canonical form. -/
theorem Memory.write_wf {m : Memory} {a : Nat} (v : Byte) (ha : a < fbSize) (h : m.wf = true) : (m.write a v).wf = true := by
  unfold Memory.write
  split
  · exact Memory.canonicalFrom_erase a h
  · rename_i hv
    exact Memory.canonicalFrom_insert (by intro c hc; simpa [Memory.erase] using (List.mem_filter.mp hc).2)
      (Nat.zero_le _) ha hv (Memory.canonicalFrom_erase a h)

/-- The memory of the state after reset is in canonical form. -/
theorem Memory.reset_wf : State.reset.fb.wf = true := rfl

end Sys2Proof.Machine
end

