-- ==== Sys2Proof/Laws/State.lean ====
section
/-! SUPPORT. What each update of the state does to each field, one lemma a field, so that no proof unfolds an update. -/

namespace Sys2Proof.Machine

/-! `State.setCrcAcc` -/

@[simp] theorem State.setCrcAcc_crcAcc (s : State) (v : Half) : (s.setCrcAcc v).crcAcc = v := rfl
@[simp] theorem State.setCrcAcc_rxState (s : State) (v : Half) : (s.setCrcAcc v).rxState = s.rxState := rfl
@[simp] theorem State.setCrcAcc_rxCrc (s : State) (v : Half) : (s.setCrcAcc v).rxCrc = s.rxCrc := rfl
@[simp] theorem State.setCrcAcc_rxCnt (s : State) (v : Half) : (s.setCrcAcc v).rxCnt = s.rxCnt := rfl
@[simp] theorem State.setCrcAcc_frameValid (s : State) (v : Half) : (s.setCrcAcc v).frameValid = s.frameValid := rfl
@[simp] theorem State.setCrcAcc_rxExp (s : State) (v : Half) : (s.setCrcAcc v).rxExp = s.rxExp := rfl
@[simp] theorem State.setCrcAcc_fb (s : State) (v : Half) : (s.setCrcAcc v).fb = s.fb := rfl
@[simp] theorem State.setCrcAcc_config (s : State) (v : Half) : (s.setCrcAcc v).config = s.config := rfl
@[simp] theorem State.setCrcAcc_commands (s : State) (v : Half) : (s.setCrcAcc v).commands = s.commands := rfl
@[simp] theorem State.setCrcAcc_responses (s : State) (v : Half) : (s.setCrcAcc v).responses = s.responses := rfl
@[simp] theorem State.setCrcAcc_transportBound (s : State) (v : Half) : (s.setCrcAcc v).transportBound = s.transportBound := rfl
@[simp] theorem State.setCrcAcc_allocAnswers (s : State) (v : Half) : (s.setCrcAcc v).allocAnswers = s.allocAnswers := rfl
@[simp] theorem State.setCrcAcc_allocCalls (s : State) (v : Half) : (s.setCrcAcc v).allocCalls = s.allocCalls := rfl
@[simp] theorem State.setCrcAcc_payload (s : State) (v : Half) : (s.setCrcAcc v).payload = s.payload := rfl
@[simp] theorem State.setCrcAcc_txStream (s : State) (v : Half) : (s.setCrcAcc v).txStream = s.txStream := rfl

/-! `State.setRxState` -/

@[simp] theorem State.setRxState_crcAcc (s : State) (v : BitVec 2) : (s.setRxState v).crcAcc = s.crcAcc := rfl
@[simp] theorem State.setRxState_rxState (s : State) (v : BitVec 2) : (s.setRxState v).rxState = v := rfl
@[simp] theorem State.setRxState_rxCrc (s : State) (v : BitVec 2) : (s.setRxState v).rxCrc = s.rxCrc := rfl
@[simp] theorem State.setRxState_rxCnt (s : State) (v : BitVec 2) : (s.setRxState v).rxCnt = s.rxCnt := rfl
@[simp] theorem State.setRxState_frameValid (s : State) (v : BitVec 2) : (s.setRxState v).frameValid = s.frameValid := rfl
@[simp] theorem State.setRxState_rxExp (s : State) (v : BitVec 2) : (s.setRxState v).rxExp = s.rxExp := rfl
@[simp] theorem State.setRxState_fb (s : State) (v : BitVec 2) : (s.setRxState v).fb = s.fb := rfl
@[simp] theorem State.setRxState_config (s : State) (v : BitVec 2) : (s.setRxState v).config = s.config := rfl
@[simp] theorem State.setRxState_commands (s : State) (v : BitVec 2) : (s.setRxState v).commands = s.commands := rfl
@[simp] theorem State.setRxState_responses (s : State) (v : BitVec 2) : (s.setRxState v).responses = s.responses := rfl
@[simp] theorem State.setRxState_transportBound (s : State) (v : BitVec 2) : (s.setRxState v).transportBound = s.transportBound := rfl
@[simp] theorem State.setRxState_allocAnswers (s : State) (v : BitVec 2) : (s.setRxState v).allocAnswers = s.allocAnswers := rfl
@[simp] theorem State.setRxState_allocCalls (s : State) (v : BitVec 2) : (s.setRxState v).allocCalls = s.allocCalls := rfl
@[simp] theorem State.setRxState_payload (s : State) (v : BitVec 2) : (s.setRxState v).payload = s.payload := rfl
@[simp] theorem State.setRxState_txStream (s : State) (v : BitVec 2) : (s.setRxState v).txStream = s.txStream := rfl

/-! `State.setRxCrc` -/

@[simp] theorem State.setRxCrc_crcAcc (s : State) (v : Half) : (s.setRxCrc v).crcAcc = s.crcAcc := rfl
@[simp] theorem State.setRxCrc_rxState (s : State) (v : Half) : (s.setRxCrc v).rxState = s.rxState := rfl
@[simp] theorem State.setRxCrc_rxCrc (s : State) (v : Half) : (s.setRxCrc v).rxCrc = v := rfl
@[simp] theorem State.setRxCrc_rxCnt (s : State) (v : Half) : (s.setRxCrc v).rxCnt = s.rxCnt := rfl
@[simp] theorem State.setRxCrc_frameValid (s : State) (v : Half) : (s.setRxCrc v).frameValid = s.frameValid := rfl
@[simp] theorem State.setRxCrc_rxExp (s : State) (v : Half) : (s.setRxCrc v).rxExp = s.rxExp := rfl
@[simp] theorem State.setRxCrc_fb (s : State) (v : Half) : (s.setRxCrc v).fb = s.fb := rfl
@[simp] theorem State.setRxCrc_config (s : State) (v : Half) : (s.setRxCrc v).config = s.config := rfl
@[simp] theorem State.setRxCrc_commands (s : State) (v : Half) : (s.setRxCrc v).commands = s.commands := rfl
@[simp] theorem State.setRxCrc_responses (s : State) (v : Half) : (s.setRxCrc v).responses = s.responses := rfl
@[simp] theorem State.setRxCrc_transportBound (s : State) (v : Half) : (s.setRxCrc v).transportBound = s.transportBound := rfl
@[simp] theorem State.setRxCrc_allocAnswers (s : State) (v : Half) : (s.setRxCrc v).allocAnswers = s.allocAnswers := rfl
@[simp] theorem State.setRxCrc_allocCalls (s : State) (v : Half) : (s.setRxCrc v).allocCalls = s.allocCalls := rfl
@[simp] theorem State.setRxCrc_payload (s : State) (v : Half) : (s.setRxCrc v).payload = s.payload := rfl
@[simp] theorem State.setRxCrc_txStream (s : State) (v : Half) : (s.setRxCrc v).txStream = s.txStream := rfl

/-! `State.setRxCnt` -/

@[simp] theorem State.setRxCnt_crcAcc (s : State) (v : Byte) : (s.setRxCnt v).crcAcc = s.crcAcc := rfl
@[simp] theorem State.setRxCnt_rxState (s : State) (v : Byte) : (s.setRxCnt v).rxState = s.rxState := rfl
@[simp] theorem State.setRxCnt_rxCrc (s : State) (v : Byte) : (s.setRxCnt v).rxCrc = s.rxCrc := rfl
@[simp] theorem State.setRxCnt_rxCnt (s : State) (v : Byte) : (s.setRxCnt v).rxCnt = v := rfl
@[simp] theorem State.setRxCnt_frameValid (s : State) (v : Byte) : (s.setRxCnt v).frameValid = s.frameValid := rfl
@[simp] theorem State.setRxCnt_rxExp (s : State) (v : Byte) : (s.setRxCnt v).rxExp = s.rxExp := rfl
@[simp] theorem State.setRxCnt_fb (s : State) (v : Byte) : (s.setRxCnt v).fb = s.fb := rfl
@[simp] theorem State.setRxCnt_config (s : State) (v : Byte) : (s.setRxCnt v).config = s.config := rfl
@[simp] theorem State.setRxCnt_commands (s : State) (v : Byte) : (s.setRxCnt v).commands = s.commands := rfl
@[simp] theorem State.setRxCnt_responses (s : State) (v : Byte) : (s.setRxCnt v).responses = s.responses := rfl
@[simp] theorem State.setRxCnt_transportBound (s : State) (v : Byte) : (s.setRxCnt v).transportBound = s.transportBound := rfl
@[simp] theorem State.setRxCnt_allocAnswers (s : State) (v : Byte) : (s.setRxCnt v).allocAnswers = s.allocAnswers := rfl
@[simp] theorem State.setRxCnt_allocCalls (s : State) (v : Byte) : (s.setRxCnt v).allocCalls = s.allocCalls := rfl
@[simp] theorem State.setRxCnt_payload (s : State) (v : Byte) : (s.setRxCnt v).payload = s.payload := rfl
@[simp] theorem State.setRxCnt_txStream (s : State) (v : Byte) : (s.setRxCnt v).txStream = s.txStream := rfl

/-! `State.setRxExp` -/

@[simp] theorem State.setRxExp_crcAcc (s : State) (v : Byte) : (s.setRxExp v).crcAcc = s.crcAcc := rfl
@[simp] theorem State.setRxExp_rxState (s : State) (v : Byte) : (s.setRxExp v).rxState = s.rxState := rfl
@[simp] theorem State.setRxExp_rxCrc (s : State) (v : Byte) : (s.setRxExp v).rxCrc = s.rxCrc := rfl
@[simp] theorem State.setRxExp_rxCnt (s : State) (v : Byte) : (s.setRxExp v).rxCnt = s.rxCnt := rfl
@[simp] theorem State.setRxExp_frameValid (s : State) (v : Byte) : (s.setRxExp v).frameValid = s.frameValid := rfl
@[simp] theorem State.setRxExp_rxExp (s : State) (v : Byte) : (s.setRxExp v).rxExp = v := rfl
@[simp] theorem State.setRxExp_fb (s : State) (v : Byte) : (s.setRxExp v).fb = s.fb := rfl
@[simp] theorem State.setRxExp_config (s : State) (v : Byte) : (s.setRxExp v).config = s.config := rfl
@[simp] theorem State.setRxExp_commands (s : State) (v : Byte) : (s.setRxExp v).commands = s.commands := rfl
@[simp] theorem State.setRxExp_responses (s : State) (v : Byte) : (s.setRxExp v).responses = s.responses := rfl
@[simp] theorem State.setRxExp_transportBound (s : State) (v : Byte) : (s.setRxExp v).transportBound = s.transportBound := rfl
@[simp] theorem State.setRxExp_allocAnswers (s : State) (v : Byte) : (s.setRxExp v).allocAnswers = s.allocAnswers := rfl
@[simp] theorem State.setRxExp_allocCalls (s : State) (v : Byte) : (s.setRxExp v).allocCalls = s.allocCalls := rfl
@[simp] theorem State.setRxExp_payload (s : State) (v : Byte) : (s.setRxExp v).payload = s.payload := rfl
@[simp] theorem State.setRxExp_txStream (s : State) (v : Byte) : (s.setRxExp v).txStream = s.txStream := rfl

/-! `State.setFrameValid` -/

@[simp] theorem State.setFrameValid_crcAcc (s : State) (v : Bool) : (s.setFrameValid v).crcAcc = s.crcAcc := rfl
@[simp] theorem State.setFrameValid_rxState (s : State) (v : Bool) : (s.setFrameValid v).rxState = s.rxState := rfl
@[simp] theorem State.setFrameValid_rxCrc (s : State) (v : Bool) : (s.setFrameValid v).rxCrc = s.rxCrc := rfl
@[simp] theorem State.setFrameValid_rxCnt (s : State) (v : Bool) : (s.setFrameValid v).rxCnt = s.rxCnt := rfl
@[simp] theorem State.setFrameValid_frameValid (s : State) (v : Bool) : (s.setFrameValid v).frameValid = v := rfl
@[simp] theorem State.setFrameValid_rxExp (s : State) (v : Bool) : (s.setFrameValid v).rxExp = s.rxExp := rfl
@[simp] theorem State.setFrameValid_fb (s : State) (v : Bool) : (s.setFrameValid v).fb = s.fb := rfl
@[simp] theorem State.setFrameValid_config (s : State) (v : Bool) : (s.setFrameValid v).config = s.config := rfl
@[simp] theorem State.setFrameValid_commands (s : State) (v : Bool) : (s.setFrameValid v).commands = s.commands := rfl
@[simp] theorem State.setFrameValid_responses (s : State) (v : Bool) : (s.setFrameValid v).responses = s.responses := rfl
@[simp] theorem State.setFrameValid_transportBound (s : State) (v : Bool) : (s.setFrameValid v).transportBound = s.transportBound := rfl
@[simp] theorem State.setFrameValid_allocAnswers (s : State) (v : Bool) : (s.setFrameValid v).allocAnswers = s.allocAnswers := rfl
@[simp] theorem State.setFrameValid_allocCalls (s : State) (v : Bool) : (s.setFrameValid v).allocCalls = s.allocCalls := rfl
@[simp] theorem State.setFrameValid_payload (s : State) (v : Bool) : (s.setFrameValid v).payload = s.payload := rfl
@[simp] theorem State.setFrameValid_txStream (s : State) (v : Bool) : (s.setFrameValid v).txStream = s.txStream := rfl

/-! `State.respond` -/

@[simp] theorem State.respond_crcAcc (s : State) (st : Status) (d : Half) : (s.respond st d).crcAcc = s.crcAcc := rfl
@[simp] theorem State.respond_rxState (s : State) (st : Status) (d : Half) : (s.respond st d).rxState = s.rxState := rfl
@[simp] theorem State.respond_rxCrc (s : State) (st : Status) (d : Half) : (s.respond st d).rxCrc = s.rxCrc := rfl
@[simp] theorem State.respond_rxCnt (s : State) (st : Status) (d : Half) : (s.respond st d).rxCnt = s.rxCnt := rfl
@[simp] theorem State.respond_frameValid (s : State) (st : Status) (d : Half) : (s.respond st d).frameValid = s.frameValid := rfl
@[simp] theorem State.respond_rxExp (s : State) (st : Status) (d : Half) : (s.respond st d).rxExp = s.rxExp := rfl
@[simp] theorem State.respond_fb (s : State) (st : Status) (d : Half) : (s.respond st d).fb = s.fb := rfl
@[simp] theorem State.respond_config (s : State) (st : Status) (d : Half) : (s.respond st d).config = s.config := rfl
@[simp] theorem State.respond_commands (s : State) (st : Status) (d : Half) : (s.respond st d).commands = s.commands := rfl
@[simp] theorem State.respond_responses (s : State) (st : Status) (d : Half) : (s.respond st d).responses = s.responses ++ [responseWord st d] := rfl
@[simp] theorem State.respond_transportBound (s : State) (st : Status) (d : Half) : (s.respond st d).transportBound = s.transportBound := rfl
@[simp] theorem State.respond_allocAnswers (s : State) (st : Status) (d : Half) : (s.respond st d).allocAnswers = s.allocAnswers := rfl
@[simp] theorem State.respond_allocCalls (s : State) (st : Status) (d : Half) : (s.respond st d).allocCalls = s.allocCalls := rfl
@[simp] theorem State.respond_payload (s : State) (st : Status) (d : Half) : (s.respond st d).payload = s.payload := rfl
@[simp] theorem State.respond_txStream (s : State) (st : Status) (d : Half) : (s.respond st d).txStream = s.txStream := rfl

/-! `State.issue` -/

@[simp] theorem State.issue_crcAcc (s : State) (w : Word) : (s.issue w).crcAcc = s.crcAcc := rfl
@[simp] theorem State.issue_rxState (s : State) (w : Word) : (s.issue w).rxState = s.rxState := rfl
@[simp] theorem State.issue_rxCrc (s : State) (w : Word) : (s.issue w).rxCrc = s.rxCrc := rfl
@[simp] theorem State.issue_rxCnt (s : State) (w : Word) : (s.issue w).rxCnt = s.rxCnt := rfl
@[simp] theorem State.issue_frameValid (s : State) (w : Word) : (s.issue w).frameValid = s.frameValid := rfl
@[simp] theorem State.issue_rxExp (s : State) (w : Word) : (s.issue w).rxExp = s.rxExp := rfl
@[simp] theorem State.issue_fb (s : State) (w : Word) : (s.issue w).fb = s.fb := rfl
@[simp] theorem State.issue_config (s : State) (w : Word) : (s.issue w).config = s.config := rfl
@[simp] theorem State.issue_commands (s : State) (w : Word) : (s.issue w).commands = w :: s.commands := rfl
@[simp] theorem State.issue_responses (s : State) (w : Word) : (s.issue w).responses = s.responses := rfl
@[simp] theorem State.issue_transportBound (s : State) (w : Word) : (s.issue w).transportBound = s.transportBound := rfl
@[simp] theorem State.issue_allocAnswers (s : State) (w : Word) : (s.issue w).allocAnswers = s.allocAnswers := rfl
@[simp] theorem State.issue_allocCalls (s : State) (w : Word) : (s.issue w).allocCalls = s.allocCalls := rfl
@[simp] theorem State.issue_payload (s : State) (w : Word) : (s.issue w).payload = s.payload := rfl
@[simp] theorem State.issue_txStream (s : State) (w : Word) : (s.issue w).txStream = s.txStream := rfl

/-! `State.afterAlloc` -/

@[simp] theorem State.afterAlloc_crcAcc (s : State) (n : Nat) : (s.afterAlloc n).crcAcc = s.crcAcc := rfl
@[simp] theorem State.afterAlloc_rxState (s : State) (n : Nat) : (s.afterAlloc n).rxState = s.rxState := rfl
@[simp] theorem State.afterAlloc_rxCrc (s : State) (n : Nat) : (s.afterAlloc n).rxCrc = s.rxCrc := rfl
@[simp] theorem State.afterAlloc_rxCnt (s : State) (n : Nat) : (s.afterAlloc n).rxCnt = s.rxCnt := rfl
@[simp] theorem State.afterAlloc_frameValid (s : State) (n : Nat) : (s.afterAlloc n).frameValid = s.frameValid := rfl
@[simp] theorem State.afterAlloc_rxExp (s : State) (n : Nat) : (s.afterAlloc n).rxExp = s.rxExp := rfl
@[simp] theorem State.afterAlloc_fb (s : State) (n : Nat) : (s.afterAlloc n).fb = s.fb := rfl
@[simp] theorem State.afterAlloc_config (s : State) (n : Nat) : (s.afterAlloc n).config = s.config := rfl
@[simp] theorem State.afterAlloc_commands (s : State) (n : Nat) : (s.afterAlloc n).commands = s.commands := rfl
@[simp] theorem State.afterAlloc_responses (s : State) (n : Nat) : (s.afterAlloc n).responses = s.responses := rfl
@[simp] theorem State.afterAlloc_transportBound (s : State) (n : Nat) : (s.afterAlloc n).transportBound = s.transportBound := rfl
@[simp] theorem State.afterAlloc_allocAnswers (s : State) (n : Nat) : (s.afterAlloc n).allocAnswers = if s.transportBound then s.allocAnswers.tail else s.allocAnswers := rfl
@[simp] theorem State.afterAlloc_allocCalls (s : State) (n : Nat) : (s.afterAlloc n).allocCalls = s.allocCalls ++ [n] := rfl
@[simp] theorem State.afterAlloc_payload (s : State) (n : Nat) : (s.afterAlloc n).payload = s.payload := rfl
@[simp] theorem State.afterAlloc_txStream (s : State) (n : Nat) : (s.afterAlloc n).txStream = s.txStream := rfl

/-! `State.hostEnqueue` -/

@[simp] theorem State.hostEnqueue_crcAcc (s : State) (buf : Memory) (n : Nat) : (s.hostEnqueue buf n).crcAcc = s.crcAcc := rfl
@[simp] theorem State.hostEnqueue_rxState (s : State) (buf : Memory) (n : Nat) : (s.hostEnqueue buf n).rxState = s.rxState := rfl
@[simp] theorem State.hostEnqueue_rxCrc (s : State) (buf : Memory) (n : Nat) : (s.hostEnqueue buf n).rxCrc = s.rxCrc := rfl
@[simp] theorem State.hostEnqueue_rxCnt (s : State) (buf : Memory) (n : Nat) : (s.hostEnqueue buf n).rxCnt = s.rxCnt := rfl
@[simp] theorem State.hostEnqueue_frameValid (s : State) (buf : Memory) (n : Nat) : (s.hostEnqueue buf n).frameValid = s.frameValid := rfl
@[simp] theorem State.hostEnqueue_rxExp (s : State) (buf : Memory) (n : Nat) : (s.hostEnqueue buf n).rxExp = s.rxExp := rfl
@[simp] theorem State.hostEnqueue_fb (s : State) (buf : Memory) (n : Nat) : (s.hostEnqueue buf n).fb = s.fb := rfl
@[simp] theorem State.hostEnqueue_config (s : State) (buf : Memory) (n : Nat) : (s.hostEnqueue buf n).config = s.config := rfl
@[simp] theorem State.hostEnqueue_commands (s : State) (buf : Memory) (n : Nat) : (s.hostEnqueue buf n).commands = s.commands := rfl
@[simp] theorem State.hostEnqueue_responses (s : State) (buf : Memory) (n : Nat) : (s.hostEnqueue buf n).responses = s.responses := rfl
@[simp] theorem State.hostEnqueue_transportBound (s : State) (buf : Memory) (n : Nat) : (s.hostEnqueue buf n).transportBound = s.transportBound := rfl
@[simp] theorem State.hostEnqueue_allocAnswers (s : State) (buf : Memory) (n : Nat) : (s.hostEnqueue buf n).allocAnswers = s.allocAnswers := rfl
@[simp] theorem State.hostEnqueue_allocCalls (s : State) (buf : Memory) (n : Nat) : (s.hostEnqueue buf n).allocCalls = s.allocCalls := rfl
@[simp] theorem State.hostEnqueue_payload (s : State) (buf : Memory) (n : Nat) : (s.hostEnqueue buf n).payload = s.payload := rfl
@[simp] theorem State.hostEnqueue_txStream (s : State) (buf : Memory) (n : Nat) : (s.hostEnqueue buf n).txStream = s.txStream ++ [(List.range n).map buf.read] := rfl

/-! `State.setFb` -/

@[simp] theorem State.setFb_crcAcc (s : State) (m : Memory) : (s.setFb m).crcAcc = s.crcAcc := rfl
@[simp] theorem State.setFb_rxState (s : State) (m : Memory) : (s.setFb m).rxState = s.rxState := rfl
@[simp] theorem State.setFb_rxCrc (s : State) (m : Memory) : (s.setFb m).rxCrc = s.rxCrc := rfl
@[simp] theorem State.setFb_rxCnt (s : State) (m : Memory) : (s.setFb m).rxCnt = s.rxCnt := rfl
@[simp] theorem State.setFb_frameValid (s : State) (m : Memory) : (s.setFb m).frameValid = s.frameValid := rfl
@[simp] theorem State.setFb_rxExp (s : State) (m : Memory) : (s.setFb m).rxExp = s.rxExp := rfl
@[simp] theorem State.setFb_fb (s : State) (m : Memory) : (s.setFb m).fb = m := rfl
@[simp] theorem State.setFb_config (s : State) (m : Memory) : (s.setFb m).config = s.config := rfl
@[simp] theorem State.setFb_commands (s : State) (m : Memory) : (s.setFb m).commands = s.commands := rfl
@[simp] theorem State.setFb_responses (s : State) (m : Memory) : (s.setFb m).responses = s.responses := rfl
@[simp] theorem State.setFb_transportBound (s : State) (m : Memory) : (s.setFb m).transportBound = s.transportBound := rfl
@[simp] theorem State.setFb_allocAnswers (s : State) (m : Memory) : (s.setFb m).allocAnswers = s.allocAnswers := rfl
@[simp] theorem State.setFb_allocCalls (s : State) (m : Memory) : (s.setFb m).allocCalls = s.allocCalls := rfl
@[simp] theorem State.setFb_payload (s : State) (m : Memory) : (s.setFb m).payload = s.payload := rfl
@[simp] theorem State.setFb_txStream (s : State) (m : Memory) : (s.setFb m).txStream = s.txStream := rfl

/-! `State.setCommands` -/

@[simp] theorem State.setCommands_crcAcc (s : State) (ws : List Word) : (s.setCommands ws).crcAcc = s.crcAcc := rfl
@[simp] theorem State.setCommands_rxState (s : State) (ws : List Word) : (s.setCommands ws).rxState = s.rxState := rfl
@[simp] theorem State.setCommands_rxCrc (s : State) (ws : List Word) : (s.setCommands ws).rxCrc = s.rxCrc := rfl
@[simp] theorem State.setCommands_rxCnt (s : State) (ws : List Word) : (s.setCommands ws).rxCnt = s.rxCnt := rfl
@[simp] theorem State.setCommands_frameValid (s : State) (ws : List Word) : (s.setCommands ws).frameValid = s.frameValid := rfl
@[simp] theorem State.setCommands_rxExp (s : State) (ws : List Word) : (s.setCommands ws).rxExp = s.rxExp := rfl
@[simp] theorem State.setCommands_fb (s : State) (ws : List Word) : (s.setCommands ws).fb = s.fb := rfl
@[simp] theorem State.setCommands_config (s : State) (ws : List Word) : (s.setCommands ws).config = s.config := rfl
@[simp] theorem State.setCommands_commands (s : State) (ws : List Word) : (s.setCommands ws).commands = ws := rfl
@[simp] theorem State.setCommands_responses (s : State) (ws : List Word) : (s.setCommands ws).responses = s.responses := rfl
@[simp] theorem State.setCommands_transportBound (s : State) (ws : List Word) : (s.setCommands ws).transportBound = s.transportBound := rfl
@[simp] theorem State.setCommands_allocAnswers (s : State) (ws : List Word) : (s.setCommands ws).allocAnswers = s.allocAnswers := rfl
@[simp] theorem State.setCommands_allocCalls (s : State) (ws : List Word) : (s.setCommands ws).allocCalls = s.allocCalls := rfl
@[simp] theorem State.setCommands_payload (s : State) (ws : List Word) : (s.setCommands ws).payload = s.payload := rfl
@[simp] theorem State.setCommands_txStream (s : State) (ws : List Word) : (s.setCommands ws).txStream = s.txStream := rfl

/-! `State.setPayload` -/

@[simp] theorem State.setPayload_crcAcc (s : State) (ps : List Byte) : (s.setPayload ps).crcAcc = s.crcAcc := rfl
@[simp] theorem State.setPayload_rxState (s : State) (ps : List Byte) : (s.setPayload ps).rxState = s.rxState := rfl
@[simp] theorem State.setPayload_rxCrc (s : State) (ps : List Byte) : (s.setPayload ps).rxCrc = s.rxCrc := rfl
@[simp] theorem State.setPayload_rxCnt (s : State) (ps : List Byte) : (s.setPayload ps).rxCnt = s.rxCnt := rfl
@[simp] theorem State.setPayload_frameValid (s : State) (ps : List Byte) : (s.setPayload ps).frameValid = s.frameValid := rfl
@[simp] theorem State.setPayload_rxExp (s : State) (ps : List Byte) : (s.setPayload ps).rxExp = s.rxExp := rfl
@[simp] theorem State.setPayload_fb (s : State) (ps : List Byte) : (s.setPayload ps).fb = s.fb := rfl
@[simp] theorem State.setPayload_config (s : State) (ps : List Byte) : (s.setPayload ps).config = s.config := rfl
@[simp] theorem State.setPayload_commands (s : State) (ps : List Byte) : (s.setPayload ps).commands = s.commands := rfl
@[simp] theorem State.setPayload_responses (s : State) (ps : List Byte) : (s.setPayload ps).responses = s.responses := rfl
@[simp] theorem State.setPayload_transportBound (s : State) (ps : List Byte) : (s.setPayload ps).transportBound = s.transportBound := rfl
@[simp] theorem State.setPayload_allocAnswers (s : State) (ps : List Byte) : (s.setPayload ps).allocAnswers = s.allocAnswers := rfl
@[simp] theorem State.setPayload_allocCalls (s : State) (ps : List Byte) : (s.setPayload ps).allocCalls = s.allocCalls := rfl
@[simp] theorem State.setPayload_payload (s : State) (ps : List Byte) : (s.setPayload ps).payload = ps := rfl
@[simp] theorem State.setPayload_txStream (s : State) (ps : List Byte) : (s.setPayload ps).txStream = s.txStream := rfl

/-! An illegal word is answered like every other. -/

@[simp] theorem State.respondIllegal_eq (s : State) : s.respondIllegal = s.respond .illegalCommand 0 := rfl

end Sys2Proof.Machine
end

