-- ==== Sys2Proof/Laws/Ops.lean ====
section
/-! SUPPORT. What each shared operation can do, said once: if it answers a next state, then this. -/

namespace Sys2Proof.Machine

/-! `andThen` -/

@[simp] theorem andThen_next {α β : Type} (a : α) (k : α → Result β) : andThen (.next a) k = k a := rfl

@[simp] theorem andThen_fault {α β : Type} (r : Fault) (k : α → Result β) : andThen (.fault r) k = .fault r := rfl

@[simp] theorem andThen_refused {α β : Type} (r : Refusal) (k : α → Result β) : andThen (.refused r) k = .refused r := rfl

theorem andThen_eq_next {α β : Type} {o : Result α} {k : α → Result β} {b : β} :
    andThen o k = .next b ↔ ∃ a, o = .next a ∧ k a = .next b := by
  cases o <;> simp

theorem andThen_assoc {α β γ : Type} (o : Result α) (k : α → Result β) (l : β → Result γ) :
    andThen (andThen o k) l = andThen o (fun a => andThen (k a) l) := by
  cases o <;> rfl

/-! Responses -/

@[simp] theorem responseStatus_responseWord (st : Status) (d : Half) : responseStatus (responseWord st d) = st.code := by
  rw [responseStatus, responseWord, BitVec.extractLsb'_append_eq_of_le (by omega),
    BitVec.extractLsb'_append_eq_of_le (by omega)]
  simp

@[simp] theorem responseData_responseWord (st : Status) (d : Half) : responseData (responseWord st d) = d := by
  rw [responseData, responseWord, BitVec.extractLsb'_append_eq_of_add_le (by omega)]
  simp

theorem Status.code_inj {st st' : Status} : st.code = st'.code ↔ st = st' := by
  cases st <;> cases st' <;> decide

/-- Only a `FRAME_READY` response announces a length. -/
theorem State.lastFrameReady_respond (s : State) (st : Status) (d : Half) :
    (s.respond st d).lastFrameReady = if st = .frameReady then some d.toNat else s.lastFrameReady := by
  simp only [State.lastFrameReady, State.respond_responses, List.reverse_append, List.reverse_cons, List.reverse_nil,
    List.nil_append, List.singleton_append, List.find?_cons, responseStatus_responseWord]
  by_cases h : st = .frameReady
  · simp [h]
  · rw [if_neg h, beq_false_of_ne (fun hc => h (Status.code_inj.mp hc))]

/-- The announced length depends on the responses alone. -/
theorem State.lastFrameReady_congr {s t : State} (h : t.responses = s.responses) : t.lastFrameReady = s.lastFrameReady := by
  simp only [State.lastFrameReady, h]

/-! The frame buffer -/

@[simp] theorem State.fbRead_of_lt {s : State} {i : Nat} (h : i < fbSize) : s.fbRead i = .next (s.fb.read i) := by
  simp [State.fbRead, h]

theorem State.fbRead_eq_next {s : State} {i : Nat} {v : Byte} : s.fbRead i = .next v ↔ i < fbSize ∧ s.fb.read i = v := by
  unfold State.fbRead; split <;> simp_all

@[simp] theorem State.fbWrite_of_lt {s : State} {i : Nat} {v : Byte} (h : i < fbSize) :
    s.fbWrite i v = .next (s.setFb (s.fb.write i v)) := by
  simp [State.fbWrite, h]

theorem State.fbWrite_eq_next {s t : State} {i : Nat} {v : Byte} :
    s.fbWrite i v = .next t ↔ i < fbSize ∧ s.setFb (s.fb.write i v) = t := by
  unfold State.fbWrite; split <;> simp_all

theorem State.writeRxExp_eq_next {s t : State} {n : Nat} :
    s.writeRxExp n = .next t ↔ n < 256 ∧ s.setRxExp (BitVec.ofNat 8 n) = t := by
  unfold State.writeRxExp; split <;> simp_all

/-! The host interface -/

theorem State.payloadRead_eq_next {s : State} {r : Byte × State} :
    s.payloadRead = .next r ↔ s.payload = r.1 :: r.2.payload ∧ r.2 = s.setPayload r.2.payload := by
  obtain ⟨p, t⟩ := r
  unfold State.payloadRead
  split <;> rename_i h <;> simp only [h]
  · simp
  · constructor
    · rintro h; cases h; simp
    · rintro ⟨h1, h2⟩; cases h1; rw [h2]; rfl

@[simp] theorem State.payloadRead_nil {s : State} (h : s.payload = []) : s.payloadRead = .refused .payloadNotSupplied := by
  simp [State.payloadRead, h]

@[simp] theorem State.payloadRead_cons {s : State} {p : Byte} {rest : List Byte} (h : s.payload = p :: rest) :
    s.payloadRead = .next (p, s.setPayload rest) := by
  simp [State.payloadRead, h]

theorem State.fetchCommand_nil {s : State} (h : s.commands = []) : s.fetchCommand = none := by
  simp [State.fetchCommand, h]

theorem State.fetchCommand_cons {s : State} {w : Word} {rest : List Word} (h : s.commands = w :: rest) :
    s.fetchCommand = some (w, s.setCommands rest) := by
  simp [State.fetchCommand, h]

/-- The payload loop changes nothing of the state but the payload still to be read, and reads the bytes it is given. -/
theorem txPayload_eq_next {n k : Nat} {w : TxWork} {s : State} {r : TxWork × State}
    (h : txPayload n k w s = .next r) :
    ∃ bytes, bytes.length = n ∧ s.payload = bytes ++ r.2.payload ∧ r.2 = s.setPayload r.2.payload := by
  induction n generalizing k w s with
  | zero => simp only [txPayload] at h; cases h; exact ⟨[], rfl, rfl, rfl⟩
  | succ n ih =>
    simp only [txPayload] at h
    obtain ⟨p, hp, h⟩ := andThen_eq_next.mp h
    obtain ⟨bytes, hl, hb, hs⟩ := ih h
    obtain ⟨h1, h2⟩ := State.payloadRead_eq_next.mp hp
    refine ⟨p.1 :: bytes, by simp [hl], ?_, ?_⟩
    · rw [h1, hb]; rfl
    · rw [hs, h2]; rfl

end Sys2Proof.Machine
end

