-- ==== Sys2Proof/Laws/PerInstr.lean ====
section
/-! SUPPORT. What every command's word shares, one lemma a command. -/

namespace Sys2Proof.Laws

/-! The fixed bits: the word of a command carries the match bits of a row of R73 under the row's mask. -/

/-- Some row of the table of R73 selects the command's word. -/
def FixedBits.Statement (i : Instr) : Prop := ∃ r ∈ decodeTable, r.selects (encode i) = true

theorem FixedBits.crcInit : FixedBits.Statement .crcInit := by unfold FixedBits.Statement; decide

theorem FixedBits.crcSeed (h : Half) : FixedBits.Statement (.crcSeed h) := by
  refine ⟨decodeTable[1], List.getElem_mem _, ?_⟩
  show (formatH 2 h &&& 0xFFFF0000 == 0x20000000) = true
  have e : (0xFFFF0000 : Word) = 0xFFFF#16 ++ 0#16 := rfl
  rw [beq_iff_eq, e, formatH, BitVec.and_append, BitVec.and_zero]; rfl

theorem FixedBits.crcUpdate (b : Byte) : FixedBits.Statement (.crcUpdate b) :=
  ⟨decodeTable[2], List.getElem_mem _, by revert b; decide +kernel⟩

theorem FixedBits.crcRead : FixedBits.Statement .crcRead := by unfold FixedBits.Statement; decide

theorem FixedBits.rxReset : FixedBits.Statement .rxReset := by unfold FixedBits.Statement; decide

theorem FixedBits.rxFeed (b : Byte) : FixedBits.Statement (.rxFeed b) :=
  ⟨decodeTable[5], List.getElem_mem _, by revert b; decide +kernel⟩

theorem FixedBits.rxRead (i : Byte) : FixedBits.Statement (.rxRead i) :=
  ⟨decodeTable[6], List.getElem_mem _, by revert i; decide +kernel⟩

theorem FixedBits.rxStatus : FixedBits.Statement .rxStatus := by unfold FixedBits.Statement; decide

theorem FixedBits.txSend (comp msg len : Byte) : FixedBits.Statement (.txSend comp msg len) := by
  refine ⟨decodeTable[8], List.getElem_mem _, ?_⟩
  show (formatT 0xC comp msg len &&& 0xFF000000 == 0xC0000000) = true
  have e : (0xFF000000 : Word) = 0xFF#8 ++ 0#8 ++ 0#8 ++ 0#8 := rfl
  rw [beq_iff_eq, e, formatT, BitVec.and_append, BitVec.and_append, BitVec.and_append, BitVec.and_zero, BitVec.and_zero,
    BitVec.and_zero]
  rfl

end Sys2Proof.Laws
end

