-- ==== Sys2Proof/Laws/Rx.lean ====
section
/-! SUPPORT. The branches of `RX_FEED`, each under the condition that selects it. -/

namespace Sys2Proof.Machine

theorem execRxFeed_awaitingStart {b : Byte} {s : State} (h : s.rxState = awaitingStart) :
    execRxFeed b s = rxFeedStart b (s.setFrameValid false) := by
  simp [execRxFeed, h]

theorem execRxFeed_awaitingHeader {b : Byte} {s : State} (h : s.rxState = awaitingHeader) :
    execRxFeed b s = rxFeedHeader b (s.setFrameValid false) := by
  simp [execRxFeed, h, awaitingHeader, awaitingStart]

theorem execRxFeed_awaitingBody {b : Byte} {s : State} (h : s.rxState = awaitingBody) :
    execRxFeed b s = rxFeedBody b (s.setFrameValid false) := by
  simp [execRxFeed, h, awaitingBody, awaitingHeader, awaitingStart]

/-- What a feed that answers a next state went through: one of the three states. -/
theorem execRxFeed_eq_next {b : Byte} {s t : State} (h : execRxFeed b s = .next t) :
    (s.rxState = awaitingStart ∧ rxFeedStart b (s.setFrameValid false) = .next t) ∨
    (s.rxState = awaitingHeader ∧ rxFeedHeader b (s.setFrameValid false) = .next t) ∨
    (s.rxState = awaitingBody ∧ rxFeedBody b (s.setFrameValid false) = .next t) := by
  unfold execRxFeed at h
  split at h
  · exact .inl ⟨‹_›, h⟩
  · split at h
    · exact .inr (.inl ⟨‹_›, h⟩)
    · split at h
      · exact .inr (.inr ⟨‹_›, h⟩)
      · cases h

theorem illegalLength_iff {b : Byte} {s : State} :
    illegalLength b s = true ↔ s.rxCnt = 0 ∧ maxPayload < b.toNat := by
  simp [illegalLength]

theorem completesFrame_iff {s : State} :
    completesFrame s = true ↔ 3 + (s.rxCnt.toNat + 1) = s.rxExp.toNat := by
  simp [completesFrame, crcHeaderSize]

/-- What a byte in AwaitingStart does: it starts a frame, or it is noise. -/
theorem rxFeedStart_eq (b : Byte) (s : State) :
    rxFeedStart b s =
      .next (if b = s.config.startMarker then
        ((((s.setFb (s.fb.write markerIndex b)).setRxCrc crcInit).setRxCnt 0).setRxState awaitingHeader).respond
          .incomplete 0
      else s.respond .incomplete 0) := by
  unfold rxFeedStart
  rw [State.fbWrite_of_lt (by decide)]
  split <;> rfl

/-- What a byte in AwaitingHeader does, when it is answered: it is an illegal length, or it is written and folded, and it
ends the header or is counted. -/
theorem rxFeedHeader_eq_next {b : Byte} {s t : State} (h : rxFeedHeader b s = .next t) :
    (s.rxCnt = 0 ∧ maxPayload < b.toNat ∧ t = ((s.setRxState awaitingStart).setRxCnt 0).respond .incomplete 0) ∨
    (¬ (s.rxCnt = 0 ∧ maxPayload < b.toNat) ∧ headerIndex s < fbSize ∧
      ∃ folded, folded = (s.setFb (s.fb.write (headerIndex s) b)).setRxCrc (crcStep s.rxCrc b) ∧
        ((s.rxCnt = 2 ∧ 3 + (folded.fb.read lengthIndex).toNat + 2 < 256 ∧
            t = (((folded.setRxExp (BitVec.ofNat 8 (3 + (folded.fb.read lengthIndex).toNat + 2))).setRxCnt 0).setRxState
              awaitingBody).respond .incomplete 0) ∨
          (s.rxCnt ≠ 2 ∧ t = (folded.setRxCnt (s.rxCnt + 1)).respond .incomplete 0))) := by
  unfold rxFeedHeader at h
  split at h
  · rename_i hi; cases h; exact .inl ⟨(illegalLength_iff.mp hi).1, (illegalLength_iff.mp hi).2, rfl⟩
  · rename_i hi
    obtain ⟨w, hw, h⟩ := andThen_eq_next.mp h
    obtain ⟨hlt, rfl⟩ := State.fbWrite_eq_next.mp hw
    refine .inr ⟨fun hc => hi (illegalLength_iff.mpr hc), hlt, _, rfl, ?_⟩
    rw [rxHeaderWritten] at h
    split at h
    · rename_i h2
      obtain ⟨n, hn, h⟩ := andThen_eq_next.mp h
      obtain ⟨e, he, h⟩ := andThen_eq_next.mp h
      obtain ⟨-, rfl⟩ := State.fbRead_eq_next.mp hn
      obtain ⟨hlt, rfl⟩ := State.writeRxExp_eq_next.mp he
      cases h
      exact .inl ⟨h2, hlt, rfl⟩
    · rename_i h2; cases h; exact .inr ⟨h2, rfl⟩

/-! Folding a body byte touches `RX_CRC` only. -/

@[simp] theorem rxFoldBody_crcAcc (n b : Byte) (s : State) : (rxFoldBody n b s).crcAcc = s.crcAcc := by
  unfold rxFoldBody; split <;> rfl
@[simp] theorem rxFoldBody_rxState (n b : Byte) (s : State) : (rxFoldBody n b s).rxState = s.rxState := by
  unfold rxFoldBody; split <;> rfl
@[simp] theorem rxFoldBody_rxCnt (n b : Byte) (s : State) : (rxFoldBody n b s).rxCnt = s.rxCnt := by
  unfold rxFoldBody; split <;> rfl
@[simp] theorem rxFoldBody_frameValid (n b : Byte) (s : State) : (rxFoldBody n b s).frameValid = s.frameValid := by
  unfold rxFoldBody; split <;> rfl
@[simp] theorem rxFoldBody_rxExp (n b : Byte) (s : State) : (rxFoldBody n b s).rxExp = s.rxExp := by
  unfold rxFoldBody; split <;> rfl
@[simp] theorem rxFoldBody_fb (n b : Byte) (s : State) : (rxFoldBody n b s).fb = s.fb := by
  unfold rxFoldBody; split <;> rfl
@[simp] theorem rxFoldBody_config (n b : Byte) (s : State) : (rxFoldBody n b s).config = s.config := by
  unfold rxFoldBody; split <;> rfl
@[simp] theorem rxFoldBody_commands (n b : Byte) (s : State) : (rxFoldBody n b s).commands = s.commands := by
  unfold rxFoldBody; split <;> rfl
@[simp] theorem rxFoldBody_responses (n b : Byte) (s : State) : (rxFoldBody n b s).responses = s.responses := by
  unfold rxFoldBody; split <;> rfl
@[simp] theorem rxFoldBody_transportBound (n b : Byte) (s : State) : (rxFoldBody n b s).transportBound = s.transportBound := by
  unfold rxFoldBody; split <;> rfl
@[simp] theorem rxFoldBody_allocAnswers (n b : Byte) (s : State) : (rxFoldBody n b s).allocAnswers = s.allocAnswers := by
  unfold rxFoldBody; split <;> rfl
@[simp] theorem rxFoldBody_allocCalls (n b : Byte) (s : State) : (rxFoldBody n b s).allocCalls = s.allocCalls := by
  unfold rxFoldBody; split <;> rfl
@[simp] theorem rxFoldBody_payload (n b : Byte) (s : State) : (rxFoldBody n b s).payload = s.payload := by
  unfold rxFoldBody; split <;> rfl
@[simp] theorem rxFoldBody_txStream (n b : Byte) (s : State) : (rxFoldBody n b s).txStream = s.txStream := by
  unfold rxFoldBody; split <;> rfl
theorem rxFoldBody_rxCrc (n b : Byte) (s : State) :
    (rxFoldBody n b s).rxCrc = if s.rxCnt < n then crcStep s.rxCrc b else s.rxCrc := by
  unfold rxFoldBody; split <;> rfl

/-- What a byte in AwaitingBody does, when it is answered: it is written, folded if it is a payload byte, and it completes
the frame or is counted. -/
theorem rxFeedBody_eq_next {b : Byte} {s t : State} (h : rxFeedBody b s = .next t) :
    ∃ n folded, n = s.fb.read lengthIndex ∧ bodyIndex s < fbSize ∧
      folded = rxFoldBody n b (s.setFb (s.fb.write (bodyIndex s) b)) ∧
      ((completesFrame s = false ∧ t = (folded.setRxCnt (s.rxCnt + 1)).respond .incomplete 0) ∨
        (completesFrame s = true ∧ crcHiIndex n.toNat < fbSize ∧
          t = if leHalf (folded.fb.read (crcLoIndex n.toNat)) (folded.fb.read (crcHiIndex n.toNat)) = folded.rxCrc then
              (((folded.setRxState awaitingStart).setRxCnt 0).setFrameValid true).respond .frameReady (zext16 n)
            else ((folded.setRxState awaitingStart).setRxCnt 0).respond .checksumMismatch 0)) := by
  unfold rxFeedBody at h
  obtain ⟨n, hn, h⟩ := andThen_eq_next.mp h
  obtain ⟨w, hw, h⟩ := andThen_eq_next.mp h
  obtain ⟨-, hn⟩ := State.fbRead_eq_next.mp hn
  obtain ⟨hlt, rfl⟩ := State.fbWrite_eq_next.mp hw
  refine ⟨n, _, hn.symm, hlt, rfl, ?_⟩
  have hcf : completesFrame (rxFoldBody n b (s.setFb (s.fb.write (bodyIndex s) b))) = completesFrame s := by
    simp [completesFrame]
  rw [rxBodyWritten, hcf] at h
  split at h
  · rename_i hc
    refine .inr ⟨hc, ?_⟩
    unfold rxComplete at h
    obtain ⟨lo, hlo, h⟩ := andThen_eq_next.mp h
    obtain ⟨hi, hhi, h⟩ := andThen_eq_next.mp h
    obtain ⟨-, rfl⟩ := State.fbRead_eq_next.mp hlo
    obtain ⟨hlt, rfl⟩ := State.fbRead_eq_next.mp hhi
    refine ⟨hlt, ?_⟩
    split at h <;> rename_i hm <;> cases h
    · rw [if_pos hm]
    · rw [if_neg hm]
  · rename_i hc; cases h; exact .inl ⟨by simpa using hc, by rw [rxFoldBody_rxCnt]; rfl⟩

end Sys2Proof.Machine
end

