-- ==== Sys2Proof/Laws/Step.lean ====
section
/-! SUPPORT. What one step can do, said once. -/

namespace Sys2Proof.Machine

/-- A step that answers a next state found no command, answered an illegal word, or executed a command. -/
theorem step_eq_next {s t : State} (h : step s = .next t) :
    (s.commands = [] ∧ t = s) ∨
    ∃ w rest, s.commands = w :: rest ∧
      ((∃ e, decode w = .error e ∧ t = (s.setCommands rest).respondIllegal) ∨
        ∃ i, decode w = .ok i ∧ exec i (s.setCommands rest) = .next t) := by
  cases hc : s.commands with
  | nil => rw [step, State.fetchCommand_nil hc] at h; cases h; exact .inl ⟨rfl, rfl⟩
  | cons w rest =>
    rw [step, State.fetchCommand_cons hc] at h
    dsimp only at h
    refine .inr ⟨w, rest, rfl, ?_⟩
    cases hd : decode w with
    | error e => rw [hd] at h; cases h; exact .inl ⟨e, rfl, rfl⟩
    | ok i => rw [hd] at h; exact .inr ⟨i, rfl, h⟩

/-- A word put in front of the command stream is the one a step fetches. -/
@[simp] theorem State.fetchCommand_issue (s : State) (w : Word) : (s.issue w).fetchCommand = some (w, s) := rfl

end Sys2Proof.Machine
end

