-- ==== Sys2Proof/Tests/Slice0.lean ====
section
/-! SUPPORT. Tests from the spec's own vectors (95_test_vectors.md), and witnesses that the statements' hypotheses can be met. -/

namespace Sys2Proof.Tests

open Sys2Proof.Machine

/-! Small states. -/

/-- The state an operation answers, if it answers one. -/
def nextOf (o : Result State) : Option State :=
  match o with
  | .next s => some s
  | .fault _ => none
  | .refused _ => none

theorem nextOf_eq_some {o : Result State} {s : State} (h : nextOf o = some s) : o = .next s := by
  cases o <;> simp_all [nextOf]

/-- A fresh unit whose RX unit holds these values. -/
def rxAt (st : BitVec 2) (cnt exp : Byte) (crc : Half) (valid : Bool) (fb : Memory) : State :=
  { State.reset with rxState := st, rxCnt := cnt, rxExp := exp, rxCrc := crc, frameValid := valid, fb := fb }

/-- After `A5`, as L1-1 lists it. -/
def afterMarker : State := rxAt 1 0 0 0xFFFF false [(0, 0xA5)]

/-- After `A5 03 01`. -/
def afterTwoHeaderBytes : State := rxAt 1 2 0 0xCB59 false [(0, 0xA5), (1, 3), (2, 1)]

/-- After `A5 03 01 10 11 22 33 3A`. -/
def beforeLastByte : State :=
  rxAt 2 4 8 0x003A false [(0, 0xA5), (1, 3), (2, 1), (3, 0x10), (4, 0x11), (5, 0x22), (6, 0x33), (7, 0x3A)]

/-- After the frame of L1-1. -/
def frameReady : State :=
  rxAt 0 0 8 0x003A true [(0, 0xA5), (1, 3), (2, 1), (3, 0x10), (4, 0x11), (5, 0x22), (6, 0x33), (7, 0x3A)]

/-- After `A5 00 00 00`. -/
def bodyOfEmptyFrame : State := rxAt 2 0 5 (crc16 [0, 0, 0]) false [(0, 0xA5)]

/-- A fresh unit whose host grants the next buffer and supplies this payload. -/
def txReady (payload : List Byte) : State :=
  { State.reset with transportBound := true, allocAnswers := [.granted], payload := payload }

/-! Well-formedness (R85): one ill-formed line for each check. -/

theorem test_crcSeed_out_of_range : (Line.crcSeed 0x10000).wellFormed = false := by decide
theorem test_crcUpdate_out_of_range : (Line.crcUpdate 0x100).wellFormed = false := by decide
theorem test_rxFeed_out_of_range : (Line.rxFeed 0x100).wellFormed = false := by decide
theorem test_rxRead_out_of_range : (Line.rxRead 0x100).wellFormed = false := by decide
theorem test_txSend_comp_out_of_range : (Line.txSend 0x100 0 0).wellFormed = false := by decide
theorem test_txSend_msg_out_of_range : (Line.txSend 0 0x100 0).wellFormed = false := by decide
theorem test_txSend_len_out_of_range : (Line.txSend 0 0 0x100).wellFormed = false := by decide
theorem test_largest_operands_in_range :
    (Line.crcSeed 0xFFFF).wellFormed ∧ (Line.rxRead 0xFF).wellFormed ∧ (Line.txSend 0xFF 0xFF 0xFF).wellFormed := by decide

theorem test_crc16_out_of_range : (PseudoLine.crc16 [0xFF, 0x100]).wellFormed = false := by decide
theorem test_crc16Update_seed_out_of_range : (PseudoLine.crc16Update 0x10000 []).wellFormed = false := by decide
theorem test_crc16Update_byte_out_of_range : (PseudoLine.crc16Update 0 [0x100]).wellFormed = false := by decide
theorem test_rxFeeds_out_of_range : (PseudoLine.rxFeeds [0x100]).wellFormed = false := by decide

/-! Decoding: the words written bit by bit from the encoding strings of R70 and the opcodes of R72. -/

theorem test_decode_crcInit : decode 0b00010000000000000000000000000000 = .ok .crcInit := by rfl
theorem test_decode_crcSeed : decode 0b00100000000000001000101100010011 = .ok (.crcSeed 0x8B13) := by rfl
theorem test_decode_crcUpdate : decode 0b00110000000000000000000000110001 = .ok (.crcUpdate 0x31) := by rfl
theorem test_decode_crcRead : decode 0b01000000000000000000000000000000 = .ok .crcRead := by rfl
theorem test_decode_rxReset : decode 0b10000000000000000000000000000000 = .ok .rxReset := by rfl
theorem test_decode_rxFeed : decode 0b10010000000000000000000010100101 = .ok (.rxFeed 0xA5) := by rfl
theorem test_decode_rxRead : decode 0b10100000000000000000000000000100 = .ok (.rxRead 4) := by rfl
theorem test_decode_rxStatus : decode 0b10110000000000000000000000000000 = .ok .rxStatus := by rfl
theorem test_decode_txSend : decode 0b11000000000000010001000000000011 = .ok (.txSend 0x01 0x10 3) := by rfl

/-- L2-ENC, the reserved opcodes. -/
theorem test_reserved_words :
    ([0x00000000, 0x50000000, 0x60000000, 0x70000000, 0xD0000000, 0xE0000000, 0xFFFFFFFF] : List Word).map decode =
      List.replicate 7 (.error .reservedOpcode) := by rfl

/-- L2-ENC, the words with a must-be-zero bit set. -/
theorem test_must_be_zero_words :
    ([0x10000001, 0x11000000, 0x21000000, 0x20010000, 0x30000131, 0x38000031, 0x40000001, 0x80000001, 0x9000FFA5,
      0xA0000100, 0xB0000004, 0xC1011003, 0xCF000000] : List Word).map decode =
      List.replicate 13 (.error .mustBeZeroBit) := by rfl

/-- R87, from commands to words. -/
theorem test_encode :
    encode (.crcUpdate 0x31) = 0x30000031 ∧ encode (.crcSeed 0x8B13) = 0x20008B13 ∧ encode (.rxFeed 0xA5) = 0x900000A5 ∧
    encode (.rxRead 4) = 0xA0000004 ∧ encode (.txSend 0x01 0x10 3) = 0xC0011003 ∧
    encode (.txSend 0x7F 0xFF 251) = 0xC07FFFFB := by decide

theorem test_decodeTableWord : decodeTableWord 32 0xC0011003 = some (.txSend 0x01 0x10 3) := by rfl

/-- R85, with a trailing annotation. -/
theorem test_assemble_txSend :
    assemble "TX_SEND 0x01, 0x10, 3 ; payload 11 22 33" State.reset = some [0xC0011003] := by decide +kernel

/-- R85: "not a truncation". -/
theorem test_assemble_out_of_range :
    assemble "RX_FEED 256" State.reset = none ∧ assemble "CRC16 1, 256" State.reset = none := by decide +kernel

/-- R86, the three pseudo-instructions with operands; the words are those of R85. -/
theorem test_assemble_pseudo :
    assemble "CRC16 0x31" State.reset = some [0x10000000, 0x30000031, 0x40000000] ∧
    assemble "CRC16_UPDATE 0x8B13, 53" State.reset = some [0x20008B13, 0x30000035, 0x40000000] ∧
    assemble "RX_FEEDS 0xA5, 3" State.reset = some [0x900000A5, 0x90000003] := by decide +kernel

/-- R86: N is the DATA of the last `FRAME_READY` response, whatever follows it. -/
theorem test_assemble_readFrame :
    assemble "RX_READFRAME" { State.reset with responses := [0x11000003, 0x11000000, 0x10000000] } =
      some [0xA0000000, 0xA0000001, 0xA0000002, 0xA0000003, 0xA0000004, 0xA0000005] := by decide +kernel

/-- Before the first `FRAME_READY` there is no N (log 22). -/
theorem test_assemble_readFrame_without_a_frame : assemble "RX_READFRAME" State.reset = none := by decide +kernel

/-! The CRC unit (L2-CRC). -/

theorem test_crcTable : crcTableEntry 0x01 = 0x1189 ∧ crcTableEntry 0xA5 = 0xF2A7 ∧ crcTableEntry 0xFF = 0x0F78 := by decide
theorem test_crcStep : crcStep 0x1234 0x56 = 0x4006 ∧ crcStep 0x8B13 0x35 = 0x44BF := by decide
theorem test_crc16_prefix : crc16 [0x03, 0x01, 0x10] = 0xDF0E := by decide

theorem test_crcInit :
    (nextOf (exec .crcInit { State.reset with crcAcc := 0x2F8D })).map (fun t => (t.crcAcc, t.responses)) =
      some (0xFFFF, [0x0000FFFF]) := by decide
theorem test_crcSeed :
    (nextOf (exec (.crcSeed 0x1234) State.reset)).map (fun t => (t.crcAcc, t.responses)) = some (0x1234, [0x00001234]) := by
  decide
theorem test_crcUpdate :
    (nextOf (exec (.crcUpdate 0x32) { State.reset with crcAcc := 0x2F8D })).map (fun t => (t.crcAcc, t.responses)) =
      some (0x4D53, [0x00004D53]) := by decide
theorem test_crcRead :
    (nextOf (exec .crcRead { State.reset with crcAcc := 0x1234 })).map (fun t => (t.crcAcc, t.responses)) =
      some (0x1234, [0x00001234]) := by decide

/-! The RX unit (L1-1, L2-RX). -/

theorem test_rxReset :
    nextOf (exec .rxReset beforeLastByte) =
      some { rxAt 0 0 0 0xFFFF false beforeLastByte.fb with responses := [0x00000000] } := by decide

/-- L1-1, row 3: the third header byte. -/
theorem test_rxFeed_end_of_header :
    nextOf (exec (.rxFeed 0x10) afterTwoHeaderBytes) =
      some { rxAt 2 0 8 0xDF0E false [(0, 0xA5), (1, 3), (2, 1), (3, 0x10)] with responses := [0x10000000] } := by
  decide +kernel

/-- L1-1, row 8: the last byte, a zero, which leaves the buffer's canonical form as it was. -/
theorem test_rxFeed_frame_ready :
    nextOf (exec (.rxFeed 0x00) beforeLastByte) = some { frameReady with responses := [0x11000003] } := by decide +kernel

theorem test_rxRead : (nextOf (exec (.rxRead 5) frameReady)).map State.responses = some [0x00000022] := by decide
theorem test_rxRead_out_of_frame : (nextOf (exec (.rxRead 9) frameReady)).map State.responses = some [0x21000000] := by decide

/-- R129: after the start marker and two header bytes. -/
theorem test_rxStatus : (nextOf (exec .rxStatus afterTwoHeaderBytes)).map State.responses = some [0x00000201] := by decide

/-! The TX unit (L1-4). -/

theorem test_txSend :
    (nextOf (exec (.txSend 0x02 0x7F 2) (txReady [0x41, 0x42]))).map (fun t => (t.txStream, t.responses)) =
      some ([[0xA5, 0x02, 0x02, 0x7F, 0x41, 0x42, 0xC1, 0xEB]], [0x0000EBC1]) := by decide +kernel
theorem test_txSend_empty :
    (nextOf (exec (.txSend 0 0 0) (txReady []))).map (fun t => (t.txStream, t.responses)) =
      some ([[0xA5, 0x00, 0x00, 0x00, 0x33, 0x39]], [0x00003933]) := by decide +kernel

/-! The step. -/

/-- L2-RX-8 and R171: an illegal word does not clear `FRAME_VALID`. -/
theorem test_illegal_word :
    nextOf (step (frameReady.withFetchWord 32 0x9000FFA5)) = some { frameReady with responses := [0xFF000000] } := by
  decide +kernel

theorem test_step_runs_the_issued_word :
    nextOf (step (State.reset.withFetchWord 32 0x30000031)) =
      some { State.reset with crcAcc := 0x2F8D, responses := [0x00002F8D] } := by decide +kernel

/-! Witnesses: for each statement with hypotheses, a concrete case that meets them all. Where several statements share
hypotheses, one theorem serves them. -/

/-- A step that answers a next state, from a state that meets the invariant: for StepKeepsConfigAndOutputs,
StepKeepsTheBufferCanonical, StepKeepsInv and InvStatesNeverFault. -/
theorem witness_reset_inv : BlockInv State.reset :=
  ⟨rfl, .inl rfl, fun _ => rfl, fun h => absurd h (by decide), fun h => absurd h (by decide), fun h => absurd h (by decide)⟩

theorem witness_readable_frame_inv : BlockInv frameReady :=
  ⟨by decide, .inl rfl, fun _ => rfl, fun h => absurd h (by decide), fun h => absurd h (by decide),
    fun _ => ⟨rfl, by decide, by decide, by decide +kernel⟩⟩

theorem witness_marker_inv : BlockInv afterMarker :=
  ⟨by decide, .inr (.inl rfl), fun h => absurd h (by decide), fun _ => ⟨by decide, by decide, by decide, by decide⟩,
    fun h => absurd h (by decide), fun h => absurd h (by decide)⟩

theorem witness_header_inv : BlockInv afterTwoHeaderBytes :=
  ⟨by decide, .inr (.inl rfl), fun h => absurd h (by decide), fun _ => ⟨by decide, by decide, by decide, by decide +kernel⟩,
    fun h => absurd h (by decide), fun h => absurd h (by decide)⟩

theorem witness_body_inv : BlockInv beforeLastByte :=
  ⟨by decide, .inr (.inr rfl), fun h => absurd h (by decide), fun h => absurd h (by decide),
    fun _ => ⟨by decide, by decide, by decide, by decide, by decide +kernel⟩, fun h => absurd h (by decide)⟩

theorem witness_step_with_command :
    BlockInv (frameReady.issue 0x90000000) ∧ (frameReady.issue 0x90000000).fb.wf = true ∧
    (frameReady.issue 0x90000000).commands = [0x90000000] ∧ decode 0x90000000 = .ok (.rxFeed 0) ∧
    ∃ t, step (frameReady.issue 0x90000000) = .next t ∧ t.frameValid = false :=
  ⟨⟨by decide, .inl rfl, fun _ => rfl, fun h => absurd h (by decide), fun h => absurd h (by decide),
    fun _ => ⟨rfl, by decide, by decide, by decide +kernel⟩⟩, by decide, rfl, rfl, _, rfl, rfl⟩

theorem witness_step_idle : State.reset.commands = [] := rfl

theorem witness_step_illegal :
    (State.reset.issue 0x00000000).commands = [0] ∧ decode 0x00000000 = .error .reservedOpcode ∧
    ∃ t, step (State.reset.issue 0x00000000) = .next t := ⟨rfl, rfl, _, rfl⟩

/-- MatchAndMaskRowsAreDisjoint: one row, named twice, that selects a word; and a word that no row selects. -/
theorem witness_MatchAndMaskRowsAreDisjoint :
    (∃ r ∈ decodeTable, 0xC0011003 &&& r.mask = r.mtch) ∧ ∀ r ∈ decodeTable, 0x00000000 &&& r.mask ≠ r.mtch := by decide

/-- OnlyItsOwnWordDecodesToACommand. -/
theorem witness_OnlyItsOwnWordDecodesToACommand : decode 0xC07FFFFB = .ok (.txSend 0x7F 0xFF 251) := rfl

/-- CrcDetectsEverySingleBitError, at the last bit of the last byte. -/
theorem witness_CrcDetectsEverySingleBitError : 1 < [(0x31 : Byte), 0x32].length ∧ 7 < 8 := by decide

/-- CrcAccBelongsToTheCrcUnit: a next state, and a command of another unit. -/
theorem witness_CrcAccBelongsToTheCrcUnit :
    (∃ t, exec .rxStatus State.reset = .next t) ∧ unitOf .rxStatus ≠ .crc := ⟨⟨_, rfl⟩, by decide⟩

/-- RxFeedAwaitingStart, NoiseChangesNothing. -/
theorem witness_noise : State.reset.rxState = awaitingStart ∧ ∀ b ∈ [0x00, 0xFF, (0x5A : Byte)], b ≠ State.reset.config.startMarker := by
  decide

/-- RxFeedIllegalLength, at 251. -/
theorem witness_RxFeedIllegalLength : afterMarker.rxState = awaitingHeader ∧ afterMarker.rxCnt = 0 ∧ 250 < (251 : Byte).toNat := by
  decide

/-- RxFeedAwaitingHeader: the first clause at the length 250 and at the second byte; the second clause at N = 250. -/
theorem witness_RxFeedAwaitingHeader :
    (afterMarker.rxState = awaitingHeader ∧ afterMarker.rxCnt.toNat < 2 ∧ (250 : Byte).toNat ≤ 250) ∧
    (let s := rxAt 1 1 0 0 false [(0, 0xA5), (1, 3)]; s.rxState = awaitingHeader ∧ s.rxCnt.toNat < 2 ∧ s.rxCnt ≠ 0) ∧
    (let s := rxAt 1 2 0 0 false [(0, 0xA5), (1, 250)]; s.rxState = awaitingHeader ∧ s.rxCnt = 2 ∧ s.frameLen ≤ 250) := by
  decide

/-- RxFeedAwaitingBody: the first clause at its last byte for N = 0 and N = 250; the second for N = 0 and N = 250; the third. -/
theorem witness_RxFeedAwaitingBody :
    (∀ n ∈ [(0 : Byte), 250], let s := rxAt 2 n (n + 5) 0 false [(0, 0xA5), (1, n)]
      s.rxState = awaitingBody ∧ s.frameLen ≤ 250 ∧ s.rxExp.toNat = 3 + s.frameLen + 2 ∧ s.rxCnt.toNat ≤ s.frameLen) ∧
    (∀ n ∈ [(0 : Byte), 250], let s := rxAt 2 (n + 1) (n + 5) 0 false [(0, 0xA5), (1, n)]
      s.rxState = awaitingBody ∧ s.frameLen ≤ 250 ∧ s.rxExp.toNat = 3 + s.frameLen + 2 ∧ s.rxCnt.toNat = s.frameLen + 1) ∧
    beforeLastByte.rxState = awaitingBody ∧ beforeLastByte.rxCnt.toNat = beforeLastByte.frameLen + 1 := by decide

/-- RxFeedFaultsOnIllFormedStates, clause by clause. -/
theorem witness_RxFeedFaultsOnIllFormedStates :
    (rxAt 3 0 0 0 false []).rxState = 3 ∧ (rxAt 1 255 0 0 false []).rxCnt.toNat = 255 ∧
    252 ≤ (rxAt 2 252 0 0 false []).rxCnt.toNat ∧ 250 < (rxAt 1 2 0 0 false [(1, 251)]).frameLen ∧
    (let s := rxAt 2 1 5 0 false [(1, 251)]
     s.rxState = awaitingBody ∧ 3 + (s.rxCnt.toNat + 1) = s.rxExp.toNat ∧ 250 < s.frameLen) ∧
    ∃ r, exec (.rxFeed 0) (rxAt 3 0 0 0 false []) = .fault r := ⟨rfl, by decide, by decide, by decide, by decide, _, rfl⟩

/-- RxFeedFrame, FrameValidRule, OnlyFeedAndResetMoveTheRxUnit: a feed and a read that answer a next state. -/
theorem witness_next_states :
    (∃ t, exec (.rxFeed 0x00) beforeLastByte = .next t ∧ t.frameValid = true) ∧
    (∃ t, exec (.rxRead 5) frameReady = .next t) := ⟨⟨_, rfl, rfl⟩, _, rfl⟩

/-- RxFeedStoresInsideTheBuffer, in each of the three states; the body clause at the last cell of an N = 3 frame. -/
theorem witness_RxFeedStoresInsideTheBuffer :
    rxFeedStores 0xA5 State.reset = some 0 ∧ rxFeedStores 0x01 afterTwoHeaderBytes = some 3 ∧
    rxFeedStores 0x00 beforeLastByte = some 8 := by decide

/-- OnlyTheseBytesEndAFrame: both ways back to AwaitingStart; and a marker byte at the length, at the third header byte and
in the body, each in a state that meets the invariant (its witnesses). -/
theorem witness_OnlyTheseBytesEndAFrame :
    (nextOf (exec (.rxFeed 251) afterMarker)).map State.rxState = some awaitingStart ∧
    (nextOf (exec (.rxFeed 0x00) beforeLastByte)).map State.rxState = some awaitingStart ∧
    (nextOf (exec (.rxFeed 0xA5) afterMarker)).map State.rxState = some awaitingHeader ∧
    (nextOf (exec (.rxFeed 0xA5) afterTwoHeaderBytes)).map State.rxState = some awaitingBody ∧
    (nextOf (exec (.rxFeed 0xA5) bodyOfEmptyFrame)).map State.rxState = some awaitingBody := by decide +kernel

theorem witness_empty_body_inv : BlockInv bodyOfEmptyFrame :=
  ⟨by decide, .inr (.inr rfl), fun h => absurd h (by decide), fun h => absurd h (by decide),
    fun _ => ⟨by decide, by decide, by decide, by decide, by decide +kernel⟩, fun h => absurd h (by decide)⟩

/-- RxReadResult, clause by clause: no frame; the first index past the frame; its last index. -/
theorem witness_RxReadResult :
    State.reset.frameValid = false ∧ frameReady.frameValid = true ∧ frameReady.frameLen + 6 ≤ (9 : Byte).toNat ∧
    (8 : Byte).toNat < frameReady.frameLen + 6 := by decide

/-- RxStatusResult, the two corner cases with hypotheses. -/
theorem witness_RxStatusResult :
    (frameReady.rxState = awaitingStart ∧ frameReady.rxCnt = 0 ∧ frameReady.frameValid = true) ∧
    (afterTwoHeaderBytes.rxState = awaitingHeader ∧ afterTwoHeaderBytes.rxCnt = 2 ∧ afterTwoHeaderBytes.frameValid = false) := by
  decide

/-- PseudoInstructionsRunTheirExpansions, what `RX_READFRAME` expands to: N = 0 and N = 250, other answers following. -/
theorem witness_readFrame_expansion :
    (0 : Half).toNat ≤ 250 ∧ (250 : Half).toNat ≤ 250 ∧
    ([0x10000000, 0x20000000, 0x00000011] : List Word).map (BitVec.extractLsb' 24 8) = [(0x10 : Byte), 0x20, 0x00] :=
  ⟨by decide, by decide, rfl⟩

/-- PseudoInstructionsRunTheirExpansions, what its reads do; AnnouncedLengthIsTheFramesLength, with a step on it. -/
theorem witness_readFrame_run :
    let s := { frameReady with responses := [0x11000003], commands := [0x40000000] }
    s.frameValid = true ∧ s.frameLen ≤ 250 ∧ s.lastFrameReady = some s.frameLen ∧
      ∃ t, step s = .next t ∧ t.frameValid = true := ⟨rfl, by decide, by decide, _, rfl, rfl⟩

/-- The same at both ends of the range of N. -/
theorem witness_readFrame_run_bounds :
    ∀ n ∈ [(0 : Byte), 250],
      let s := { rxAt 0 0 0 0 true [(0, 0xA5), (1, n)] with responses := [responseWord .frameReady (zext16 n)] }
      s.frameValid = true ∧ s.frameLen ≤ 250 ∧ s.lastFrameReady = some s.frameLen := by decide

/-- FrameTiming, BackToBackFrames: the longest payload, and a wrong checksum for the L1-7 frame. -/
theorem witness_FrameTiming :
    (List.replicate 250 (0 : Byte)).length ≤ 250 ∧ leHalf 0x6B 0x30 ≠ frameCrc 0x01 0x10 [] := by decide +kernel

/-- SingleBitErrorIsDetected, at the first bit of byte 2 and the last bit of the last byte of an N = 3 frame. -/
theorem witness_SingleBitErrorIsDetected :
    (2 ≤ 2 ∧ 0 < 8) ∧ 8 ≤ [(0x11 : Byte), 0x22, 0x33].length + 5 ∧ 7 < 8 := by decide

/-- MarkerOrLengthBitError: one flip of the length for each clause. -/
theorem witness_MarkerOrLengthBitError :
    250 < (flipBit (BitVec.ofNat 8 250) 0).toNat ∧
    (3 < (flipBit (BitVec.ofNat 8 3) 7).toNat ∧ (flipBit (BitVec.ofNat 8 3) 7).toNat ≤ 250) ∧
    (flipBit (BitVec.ofNat 8 3) 0).toNat < 3 := by decide

/-- TransmitReceiveRoundTrip: a `TX_SEND` that succeeds, and a unit in AwaitingStart with the same marker. -/
theorem witness_TransmitReceiveRoundTrip :
    (∃ t, exec (.txSend 0x02 0x7F 2) (txReady [0x41, 0x42]) = .next t ∧
      t.txStream = (txReady [0x41, 0x42]).txStream ++ [[0xA5, 0x02, 0x02, 0x7F, 0x41, 0x42, 0xC1, 0xEB]]) ∧
    State.reset.rxState = awaitingStart ∧ State.reset.config = (txReady [0x41, 0x42]).config := by
  refine ⟨?_, by decide, by decide⟩
  have h : ((nextOf (exec (.txSend 0x02 0x7F 2) (txReady [0x41, 0x42]))).map State.txStream) =
      some ((txReady [0x41, 0x42]).txStream ++ [[0xA5, 0x02, 0x02, 0x7F, 0x41, 0x42, 0xC1, 0xEB]]) := by decide +kernel
  obtain ⟨t, ht, hs⟩ := Option.map_eq_some_iff.mp h
  exact ⟨t, nextOf_eq_some ht, hs⟩

/-- TxSendFailures, clause by clause, at the lengths 251 and 250. -/
theorem witness_TxSendFailures :
    250 < (251 : Byte).toNat ∧ ((250 : Byte).toNat ≤ 250 ∧ State.reset.transportBound = false) ∧
    (let s := { State.reset with transportBound := true, allocAnswers := [.denied] }
     s.transportBound = true ∧ s.allocAnswers = [.denied]) := by decide

/-- TxSendEnqueuesTheWireFrame, TxChecksumIsTheCrcUnits: the empty payload and the longest, with bytes left over. -/
theorem witness_TxSendEnqueuesTheWireFrame :
    (∀ n ∈ [(0 : Byte), 250], n.toNat ≤ 250 ∧ (List.replicate n.toNat (0x11 : Byte)).length = n.toNat) ∧
    (txReady [0x11]).payload = [] ++ [0x11] ∧ (txReady []).transportBound = true ∧ (txReady []).allocAnswers = [.granted] := by
  decide +kernel

/-- TxSendWithoutPayloadIsRefused. -/
theorem witness_TxSendWithoutPayloadIsRefused :
    (1 : Byte).toNat ≤ 250 ∧ (txReady []).payload.length < (1 : Byte).toNat ∧ (txReady []).transportBound = true ∧
    (txReady []).allocAnswers = [.granted] := by decide

/-- TxSendDisturbsNoOtherUnit: a `TX_SEND` that answers a next state. -/
theorem witness_TxSendDisturbsNoOtherUnit : ∃ t, exec (.txSend 0x7F 0xFF 251) State.reset = .next t := ⟨_, rfl⟩

/-- CommandsToDifferentUnitsCommute. -/
theorem witness_CommandsToDifferentUnitsCommute :
    unitOf (.crcUpdate 0x31) ≠ unitOf (.rxFeed 0xA5) ∧
    ∃ t, execAll [.crcUpdate 0x31, .rxFeed 0xA5] State.reset = .next t := ⟨by decide, _, rfl⟩

/-- ByteSpaceLaws: the same buffer, reached in two orders of writing. -/
theorem witness_ByteSpaceLaws :
    ((Memory.write [] 1 2).write 0 1).wf = true ∧ ((Memory.write [] 0 1).write 1 2).wf = true ∧
    ∀ a, ((Memory.write [] 1 2).write 0 1).read a = ((Memory.write [] 0 1).write 1 2).read a := by
  refine ⟨by decide, by decide, fun a => ?_⟩
  simp only [Memory.read_write]
  by_cases h0 : a = 0 <;> by_cases h1 : a = 1 <;> simp_all

/-- HiddenStateIsUnobservable: two fresh units with different buffers. -/
theorem witness_HiddenStateIsUnobservable :
    BlockInv (rxAt 0 0 0 0x1234 false [(7, 7)]) ∧ LooksAlike State.reset (rxAt 0 0 0 0x1234 false [(7, 7)]) :=
  ⟨⟨by decide, .inl rfl, fun _ => rfl, fun h => absurd h (by decide), fun h => absurd h (by decide), fun h => absurd h (by decide)⟩,
    ⟨fun a h => absurd h (Nat.not_lt_zero a), fun h => absurd rfl h, fun h => absurd h (by decide), rfl⟩⟩

end Sys2Proof.Tests
end

section
/-! The canonical form determines a buffer's data from what it reads, and with it O53. -/

namespace Sys2Proof.Machine

@[simp] theorem Memory.read_cons (c : Host.Cell) (m : Memory) (a : Nat) :
    Memory.read (c :: m) a = if c.1 = a then c.2 else m.read a := rfl

theorem Memory.canonicalFrom_cons {lo hi : Nat} {c : Host.Cell} {m : Memory} :
    Memory.canonicalFrom lo hi (c :: m) = true ↔
      lo ≤ c.1 ∧ c.1 < hi ∧ c.2 ≠ blankByte ∧ m.canonicalFrom (c.1 + 1) hi = true := by
  simp [Memory.canonicalFrom, and_assoc]

/-- Below the first address of a canonical byte space nothing is listed. -/
theorem Memory.read_of_lt {lo hi a : Nat} {m : Memory} (h : m.canonicalFrom lo hi = true) (ha : a < lo) :
    m.read a = blankByte := by
  induction m generalizing lo with
  | nil => rfl
  | cons c m ih =>
    obtain ⟨hlo, -, -, htail⟩ := Memory.canonicalFrom_cons.mp h
    rw [Memory.read_cons, if_neg (by omega)]
    exact ih htail (by omega)

/-- A canonical byte space reads as blank only where it lists nothing, so one that reads as blank everywhere is empty. -/
theorem Memory.eq_nil_of_read_blank {lo hi : Nat} {m : Memory} (h : m.canonicalFrom lo hi = true)
    (hread : ∀ a, m.read a = blankByte) : m = [] := by
  cases m with
  | nil => rfl
  | cons c m =>
    obtain ⟨-, -, hc, -⟩ := Memory.canonicalFrom_cons.mp h
    exact absurd (by simpa using hread c.1) hc

/-- The first address of a canonical byte space is the lowest at which it does not read as blank. -/
theorem Memory.head_le_of_read_ne_blank {lo hi a : Nat} {c : Host.Cell} {m : Memory}
    (h : Memory.canonicalFrom lo hi (c :: m) = true) (ha : Memory.read (c :: m) a ≠ blankByte) : c.1 ≤ a := by
  obtain ⟨-, hhi, hc, htail⟩ := Memory.canonicalFrom_cons.mp h
  by_contra hlt
  exact ha (Memory.read_of_lt (Memory.canonicalFrom_cons.mpr ⟨le_rfl, hhi, hc, htail⟩) (by omega))

/-- Canonical byte spaces that read alike start with the same entry: each head is the lowest address not blank. -/
theorem Memory.head_eq_of_read_eq {lo hi : Nat} {c d : Host.Cell} {m m' : Memory}
    (h : Memory.canonicalFrom lo hi (c :: m) = true) (h' : Memory.canonicalFrom lo hi (d :: m') = true)
    (hread : ∀ a, Memory.read (c :: m) a = Memory.read (d :: m') a) : c = d := by
  obtain ⟨-, -, hc, -⟩ := Memory.canonicalFrom_cons.mp h
  obtain ⟨-, -, hd, -⟩ := Memory.canonicalFrom_cons.mp h'
  have hcd : c.1 ≤ d.1 := Memory.head_le_of_read_ne_blank h (by rw [hread]; simpa using hd)
  have hdc : d.1 ≤ c.1 := Memory.head_le_of_read_ne_blank h' (by rw [← hread]; simpa using hc)
  have haddr : c.1 = d.1 := le_antisymm hcd hdc
  exact Prod.ext haddr (by simpa [haddr] using hread c.1)

/-- Canonical byte spaces that read alike are equal. -/
theorem Memory.ext_of_canonicalFrom {lo hi : Nat} {m m' : Memory} (h : m.canonicalFrom lo hi = true)
    (h' : m'.canonicalFrom lo hi = true) (hread : ∀ a, m.read a = m'.read a) : m = m' := by
  induction m generalizing lo m' with
  | nil => exact (Memory.eq_nil_of_read_blank h' fun a => (hread a).symm).symm
  | cons c m ih =>
    cases m' with
    | nil => exact Memory.eq_nil_of_read_blank h hread
    | cons d m' =>
      obtain rfl := Memory.head_eq_of_read_eq h h' hread
      obtain ⟨-, -, -, htail⟩ := Memory.canonicalFrom_cons.mp h
      obtain ⟨-, -, -, htail'⟩ := Memory.canonicalFrom_cons.mp h'
      have htails : ∀ a, Memory.read m a = Memory.read m' a := fun a => by
        by_cases ha : c.1 = a
        · have hlt : a < c.1 + 1 := by omega
          rw [Memory.read_of_lt htail hlt, Memory.read_of_lt htail' hlt]
        · simpa [ha] using hread a
      rw [ih htail htail' htails]

/-- Settles O53: the model's read-after-write law, and extensionality of the canonical form (the form is the model's,
log 2). -/
theorem byteSpaceLaws : Obligations.ByteSpaceLaws :=
  ⟨Memory.read_write, fun _ _ => Memory.ext_of_canonicalFrom⟩

end Sys2Proof.Machine
end

section
/-! The cell a feed stores to in each state of the RX unit, where the invariant holds it, and with them O34. -/

namespace Sys2Proof.Machine

/-! The three states are different values of `RX_STATE` (R22). -/

theorem awaitingHeader_ne_awaitingStart : awaitingHeader ≠ awaitingStart := by decide
theorem awaitingBody_ne_awaitingStart : awaitingBody ≠ awaitingStart := by decide
theorem awaitingBody_ne_awaitingHeader : awaitingBody ≠ awaitingHeader := by decide

theorem rxFeedStores_awaitingStart {b : Byte} {s : State} {a : Nat} (hs : s.rxState = awaitingStart) :
    rxFeedStores b s = some a ↔ b = s.config.startMarker ∧ a = markerIndex := by
  simp [rxFeedStores, hs, eq_comm]

theorem rxFeedStores_awaitingHeader {b : Byte} {s : State} {a : Nat} (hs : s.rxState = awaitingHeader) :
    rxFeedStores b s = some a ↔ illegalLength b s = false ∧ a = headerIndex s := by
  rw [rxFeedStores, if_neg (hs ▸ awaitingHeader_ne_awaitingStart), if_pos hs]
  cases illegalLength b s <;> simp [eq_comm]

theorem rxFeedStores_awaitingBody {b : Byte} {s : State} {a : Nat} (hs : s.rxState = awaitingBody) :
    rxFeedStores b s = some a ↔ a = bodyIndex s := by
  simp [rxFeedStores, hs, awaitingBody_ne_awaitingStart, awaitingBody_ne_awaitingHeader, eq_comm]

/-- A header byte goes to a cell of the header: `RX_CNT` counts at most two before it (R30). -/
theorem BlockInv.headerIndex_le {s : State} (h : BlockInv s) (hs : s.rxState = awaitingHeader) : headerIndex s ≤ 3 := by
  obtain ⟨hcnt, -, -, -⟩ := h.header hs
  unfold headerIndex
  omega

/-- A body byte goes no further than the high checksum byte of the frame in progress (R30). -/
theorem BlockInv.bodyIndex_le {s : State} (h : BlockInv s) (hs : s.rxState = awaitingBody) :
    bodyIndex s ≤ crcHiIndex s.frameLen := by
  obtain ⟨-, -, hcnt, -, -⟩ := h.body hs
  unfold bodyIndex crcHiIndex
  omega

/-- The high checksum byte of a frame of a legal length has a cell in the frame buffer (R13). -/
theorem crcHiIndex_lt_fbSize {n : Nat} (hn : n ≤ maxPayload) : crcHiIndex n < fbSize := by
  unfold crcHiIndex headerSize fbSize
  unfold maxPayload at hn
  omega

/-- Settles O34, by the three states of the invariant. -/
theorem rxFeedStoresInsideTheBuffer : Obligations.RxFeedStoresInsideTheBuffer := by
  intro b s a hinv hstores
  obtain hs | hs | hs := hinv.stateLegal
  · obtain ⟨-, rfl⟩ := (rxFeedStores_awaitingStart hs).mp hstores
    simp [hs, markerIndex, awaitingHeader_ne_awaitingStart.symm, awaitingBody_ne_awaitingStart.symm]
  · obtain ⟨-, rfl⟩ := (rxFeedStores_awaitingHeader hs).mp hstores
    have hle := hinv.headerIndex_le hs
    exact ⟨by omega, fun h => absurd (hs.symm.trans h) awaitingHeader_ne_awaitingStart, fun _ => ⟨rfl, hle⟩,
      fun h => absurd (h.symm.trans hs) awaitingBody_ne_awaitingHeader⟩
  · obtain rfl := (rxFeedStores_awaitingBody hs).mp hstores
    have hle := hinv.bodyIndex_le hs
    obtain ⟨hlen, -, -, -, -⟩ := hinv.body hs
    have hlt : crcHiIndex s.frameLen < fbSize := crcHiIndex_lt_fbSize hlen
    exact ⟨Nat.le_of_lt_succ (hle.trans_lt hlt), fun h => absurd (hs.symm.trans h) awaitingBody_ne_awaitingStart,
      fun h => absurd (hs.symm.trans h) awaitingBody_ne_awaitingHeader, fun _ => ⟨rfl, hle⟩⟩

end Sys2Proof.Machine
end

section
/-! What the RX commands answer from every state, their faults included: one equation an operation, in named next states. -/

namespace Sys2Proof.Machine

/-- The state in which a header byte has been written and folded (R124). -/
def headerTaken (b : Byte) (s : State) : State :=
  (s.setFb (s.fb.write (headerIndex s) b)).setRxCrc (crcStep s.rxCrc b)

/-- The state in which a body byte has been written, and folded if it is a payload byte (R126, R127). -/
def bodyTaken (b : Byte) (s : State) : State :=
  (s.setFb (s.fb.write (bodyIndex s) b)).setRxCrc
    (if s.rxCnt < s.fb.read lengthIndex then crcStep s.rxCrc b else s.rxCrc)

/-- The answer to a byte that is counted (R124, R126). -/
def countByte (s : State) : State := (s.setRxCnt (s.rxCnt + 1)).respond .incomplete 0

/-- The answer to a header byte that drops the frame (R123). -/
def dropFrame (s : State) : State := ((s.setRxState awaitingStart).setRxCnt 0).respond .incomplete 0

/-- The answer to the start marker (R122). -/
def beginFrame (b : Byte) (s : State) : State :=
  ((((s.setFb (s.fb.write markerIndex b)).setRxCrc crcInit).setRxCnt 0).setRxState awaitingHeader).respond .incomplete 0

/-- The answer to the third header byte, once it is written and folded (R125). -/
def beginBody (s : State) : State :=
  (((s.setRxExp (BitVec.ofNat 8 (3 + s.frameLen + 2))).setRxCnt 0).setRxState awaitingBody).respond .incomplete 0

/-- The checksum in the buffer, of a frame of payload length `n`, is `RX_CRC` (R126). -/
def checksumVerifies (n : Byte) (s : State) : Bool :=
  leHalf (s.fb.read (crcLoIndex n.toNat)) (s.fb.read (crcHiIndex n.toNat)) == s.rxCrc

/-- The answer to a frame of payload length `n` whose checksum verifies (R126). -/
def acceptFrame (n : Byte) (s : State) : State :=
  (((s.setRxState awaitingStart).setRxCnt 0).setFrameValid true).respond .frameReady (zext16 n)

/-- The answer to a frame whose checksum does not verify (R126). -/
def rejectFrame (s : State) : State := ((s.setRxState awaitingStart).setRxCnt 0).respond .checksumMismatch 0

/-- The answer to the byte that completes a frame of payload length `n`, once it is written and folded (R126). -/
def endFrame (n : Byte) (s : State) : State := if checksumVerifies n s then acceptFrame n s else rejectFrame s

theorem State.fbRead_of_le {s : State} {i : Nat} (h : fbSize ≤ i) : s.fbRead i = .fault .fbIndexOutOfRange := by
  rw [State.fbRead, if_neg (by omega)]

theorem State.fbWrite_of_le {s : State} {i : Nat} {v : Byte} (h : fbSize ≤ i) :
    s.fbWrite i v = .fault .fbIndexOutOfRange := by
  rw [State.fbWrite, if_neg (by omega)]

theorem rxFeedStart_eq_beginFrame (b : Byte) (s : State) :
    rxFeedStart b s = .next (if b = s.config.startMarker then beginFrame b s else s.respond .incomplete 0) :=
  rxFeedStart_eq b s

theorem rxHeaderWritten_eq (s : State) :
    rxHeaderWritten s =
      if s.rxCnt = 2 then
        if 3 + s.frameLen + 2 < 256 then .next (beginBody s) else .fault .rxExpOutOfRange
      else .next (countByte s) := by
  unfold rxHeaderWritten
  split
  · rw [rxEndHeader, State.fbRead_of_lt (by decide), andThen_next, State.writeRxExp]
    change andThen (if 3 + s.frameLen + 2 < 256 then _ else _) _ = _
    split <;> rfl
  · rfl

theorem rxFeedHeader_eq (b : Byte) (s : State) :
    rxFeedHeader b s =
      if illegalLength b s then .next (dropFrame s)
      else if headerIndex s < fbSize then rxHeaderWritten (headerTaken b s)
      else .fault .fbIndexOutOfRange := by
  unfold rxFeedHeader
  split
  · rfl
  · split
    · rename_i hlt; rw [State.fbWrite_of_lt hlt]; rfl
    · rename_i hge; rw [State.fbWrite_of_le (by omega)]; rfl

theorem rxComplete_eq (n : Byte) (s : State) :
    rxComplete n s = if crcHiIndex n.toNat < fbSize then .next (endFrame n s) else .fault .fbIndexOutOfRange := by
  have hle : crcHiIndex n.toNat = crcLoIndex n.toNat + 1 := by unfold crcHiIndex crcLoIndex; omega
  rw [rxComplete, endFrame, checksumVerifies]
  split
  · rename_i hlt
    rw [State.fbRead_of_lt (by omega), State.fbRead_of_lt hlt]
    simp only [andThen_next, beq_iff_eq]
    exact (apply_ite Host.Outcome.next _ _ _).symm
  · rename_i hge
    rw [State.fbRead_of_le (i := crcHiIndex n.toNat) (by omega), State.fbRead]
    split <;> rfl

theorem rxFoldBody_setFb (b : Byte) (s : State) :
    rxFoldBody (s.fb.read lengthIndex) b (s.setFb (s.fb.write (bodyIndex s) b)) = bodyTaken b s := by
  rw [rxFoldBody, bodyTaken, apply_ite (State.setRxCrc _)]
  rfl

theorem rxFeedBody_eq (b : Byte) (s : State) :
    rxFeedBody b s =
      if bodyIndex s < fbSize then
        if completesFrame s then rxComplete (s.fb.read lengthIndex) (bodyTaken b s) else .next (countByte (bodyTaken b s))
      else .fault .fbIndexOutOfRange := by
  rw [rxFeedBody, State.fbRead_of_lt (by decide), andThen_next]
  split
  · rename_i hlt
    rw [State.fbWrite_of_lt hlt, andThen_next, rxFoldBody_setFb]
    rfl
  · rename_i hge; rw [State.fbWrite_of_le (by omega)]; rfl

theorem execRxRead_eq (i : Byte) (s : State) :
    execRxRead i s =
      .next (if s.frameValid then
          if frameSize s.frameLen ≤ i.toNat then s.respond .outOfFrame 0
          else s.respond .ok (zext16 (s.fb.read i.toNat))
        else s.respond .noFrame 0) := by
  have hi : i.toNat < fbSize := i.isLt
  rw [execRxRead, State.fbRead_of_lt (by decide), andThen_next, State.fbRead_of_lt hi, andThen_next]
  split
  · change (if frameSize s.frameLen ≤ i.toNat then _ else _) = _
    split <;> rfl
  · rfl

/-! What a feed does, in every state in which it answers. -/

/-- The next states a feed of `b` can answer, from a state in which `FRAME_VALID` is already clear (R122 to R127). -/
inductive FeedAnswer (b : Byte) (s : State) : State → Prop
  | noise (hs : s.rxState = awaitingStart) (hb : b ≠ s.config.startMarker) : FeedAnswer b s (s.respond .incomplete 0)
  | marker (hs : s.rxState = awaitingStart) (hb : b = s.config.startMarker) : FeedAnswer b s (beginFrame b s)
  | illegalLength (hs : s.rxState = awaitingHeader) (hb : illegalLength b s = true) : FeedAnswer b s (dropFrame s)
  | headerByte (hs : s.rxState = awaitingHeader) (hb : Machine.illegalLength b s = false) (hlt : headerIndex s < fbSize)
      (hcnt : s.rxCnt ≠ 2) : FeedAnswer b s (countByte (headerTaken b s))
  | lastHeaderByte (hs : s.rxState = awaitingHeader) (hlt : headerIndex s < fbSize) (hcnt : s.rxCnt = 2)
      (hlen : 3 + (headerTaken b s).frameLen + 2 < 256) : FeedAnswer b s (beginBody (headerTaken b s))
  | bodyByte (hs : s.rxState = awaitingBody) (hlt : bodyIndex s < fbSize) (hc : completesFrame s = false) :
      FeedAnswer b s (countByte (bodyTaken b s))
  | accepted (hs : s.rxState = awaitingBody) (hlt : bodyIndex s < fbSize) (hc : completesFrame s = true)
      (hhi : crcHiIndex s.frameLen < fbSize)
      (hm : checksumVerifies (s.fb.read lengthIndex) (bodyTaken b s) = true) :
      FeedAnswer b s (acceptFrame (s.fb.read lengthIndex) (bodyTaken b s))
  | rejected (hs : s.rxState = awaitingBody) (hlt : bodyIndex s < fbSize) (hc : completesFrame s = true)
      (hhi : crcHiIndex s.frameLen < fbSize)
      (hm : checksumVerifies (s.fb.read lengthIndex) (bodyTaken b s) = false) :
      FeedAnswer b s (rejectFrame (bodyTaken b s))

theorem FeedAnswer.of_rxFeedStart {b : Byte} {s t : State} (hs : s.rxState = awaitingStart)
    (h : rxFeedStart b s = .next t) : FeedAnswer b s t := by
  rw [rxFeedStart_eq_beginFrame] at h
  cases h
  split
  · rename_i hb; exact .marker hs hb
  · rename_i hb; exact .noise hs hb

theorem FeedAnswer.of_rxFeedHeader {b : Byte} {s t : State} (hs : s.rxState = awaitingHeader)
    (h : rxFeedHeader b s = .next t) : FeedAnswer b s t := by
  rw [rxFeedHeader_eq, rxHeaderWritten_eq] at h
  split at h
  · rename_i hb; cases h; exact .illegalLength hs hb
  · rename_i hb
    split at h
    · rename_i hlt
      split at h
      · rename_i hcnt
        split at h
        · rename_i hlen; cases h; exact .lastHeaderByte hs hlt hcnt hlen
        · cases h
      · rename_i hcnt; cases h; exact .headerByte hs (Bool.eq_false_iff.mpr hb) hlt hcnt
    · cases h

theorem FeedAnswer.of_rxFeedBody {b : Byte} {s t : State} (hs : s.rxState = awaitingBody)
    (h : rxFeedBody b s = .next t) : FeedAnswer b s t := by
  rw [rxFeedBody_eq, rxComplete_eq] at h
  split at h
  · rename_i hlt
    split at h
    · rename_i hc
      split at h
      · rename_i hhi
        cases h
        unfold endFrame
        split
        · rename_i hm; exact .accepted hs hlt hc hhi hm
        · rename_i hm; exact .rejected hs hlt hc hhi (Bool.eq_false_iff.mpr hm)
      · cases h
    · rename_i hc; cases h; exact .bodyByte hs hlt (Bool.eq_false_iff.mpr hc)
  · cases h

theorem FeedAnswer.of_execRxFeed {b : Byte} {s t : State} (h : execRxFeed b s = .next t) :
    FeedAnswer b (s.setFrameValid false) t := by
  obtain ⟨hs, h⟩ | ⟨hs, h⟩ | ⟨hs, h⟩ := execRxFeed_eq_next h
  · exact .of_rxFeedStart hs h
  · exact .of_rxFeedHeader hs h
  · exact .of_rxFeedBody hs h

end Sys2Proof.Machine
end

section
/-! What the commands that do not move the RX unit leave unchanged: everything of it (R137), and the parameters (R193). -/

namespace Sys2Proof.Machine

/-- A `TX_SEND` that answers a next state only answered, or answered after the `HostAlloc` call, or also read a payload
and handed a frame over (R150, R153). -/
theorem execTxSend_eq_next {comp msg len : Byte} {s t : State} (h : execTxSend comp msg len s = .next t) :
    t = s.respond .payloadTooLarge 0 ∨
    t = (s.afterAlloc (frameSize len.toNat)).respond .transportUnavailable 0 ∨
    ∃ rest buf crc, t = (((s.afterAlloc (frameSize len.toNat)).setPayload rest).hostEnqueue buf
      (frameSize len.toNat)).respond .ok crc := by
  unfold execTxSend at h
  split at h
  · cases h; exact .inl rfl
  · split at h
    · cases h; exact .inr (.inl rfl)
    · obtain ⟨r, hr, h⟩ := andThen_eq_next.mp h
      obtain ⟨-, -, -, hs⟩ := txPayload_eq_next hr
      rw [hs] at h
      cases h
      exact .inr (.inr ⟨_, _, _, rfl⟩)

/-- A command that is no feed and no reset keeps the registers and the buffer of the RX unit, and the parameters. -/
theorem exec_keeps_rx {i : Instr} {s t : State} (h : exec i s = .next t) (hfeed : ∀ b, i ≠ .rxFeed b)
    (hreset : i ≠ .rxReset) : t.withRxOf s = t ∧ t.config = s.config := by
  cases i with
  | crcInit | crcSeed _ | crcUpdate _ | crcRead | rxStatus => cases h; exact ⟨rfl, rfl⟩
  | rxReset => exact absurd rfl hreset
  | rxFeed b => exact absurd rfl (hfeed b)
  | rxRead i =>
    change execRxRead i s = .next t at h
    rw [execRxRead_eq] at h
    cases h
    split
    · split <;> exact ⟨rfl, rfl⟩
    · exact ⟨rfl, rfl⟩
  | txSend comp msg len =>
    obtain rfl | rfl | ⟨_, _, _, rfl⟩ := execTxSend_eq_next h <;> exact ⟨rfl, rfl⟩

/-- What a command that answers can do to the RX unit: it feeds it, resets it, or leaves it alone (R137). -/
theorem exec_eq_next {i : Instr} {s t : State} (h : exec i s = .next t) :
    (∃ b, i = .rxFeed b ∧ FeedAnswer b (s.setFrameValid false) t) ∨ (i = .rxReset ∧ execRxReset s = .next t) ∨
      ((∀ b, i ≠ .rxFeed b) ∧ i ≠ .rxReset ∧ t.withRxOf s = t ∧ t.config = s.config) := by
  by_cases hfeed : ∃ b, i = .rxFeed b
  · obtain ⟨b, rfl⟩ := hfeed
    exact .inl ⟨b, rfl, .of_execRxFeed h⟩
  · have hfeed : ∀ b, i ≠ .rxFeed b := fun b hb => hfeed ⟨b, hb⟩
    by_cases hreset : i = .rxReset
    · subst hreset
      exact .inr (.inl ⟨rfl, h⟩)
    · exact .inr (.inr ⟨hfeed, hreset, exec_keeps_rx h hfeed hreset⟩)

end Sys2Proof.Machine
end

section
/-! The invariant of reachable states (R30): it holds at reset, and every command keeps it. -/

namespace Sys2Proof.Machine

/-! The bytes of the buffer under a write. -/

theorem State.fbBytes_write_of_le {s t : State} {lo n a : Nat} {b : Byte} (ht : t.fb = s.fb.write a b) (ha : lo + n ≤ a) :
    t.fbBytes lo n = s.fbBytes lo n := by
  refine List.map_congr_left fun k hk => ?_
  have hne : lo + k ≠ a := by have := List.mem_range.mp hk; omega
  rw [ht, Memory.read_write, if_neg hne]

theorem State.fbBytes_write_next {s t : State} {lo n : Nat} {b : Byte} (ht : t.fb = s.fb.write (lo + n) b) :
    t.fbBytes lo (n + 1) = s.fbBytes lo n ++ [b] := by
  rw [← State.fbBytes_write_of_le ht le_rfl]
  simp [State.fbBytes, List.range_succ, ht]

/-! How the invariant is met. -/

/-- The invariant speaks of the RX unit and the parameters only. -/
theorem BlockInv.of_withRxOf {s t : State} (h : BlockInv s) (hrx : t.withRxOf s = t) (hcfg : t.config = s.config) :
    BlockInv t := by
  rw [← hrx]
  exact ⟨h.fbCanonical, h.stateLegal, h.start, hcfg.symm ▸ h.header, hcfg.symm ▸ h.body, hcfg.symm ▸ h.valid⟩

/-- The invariant in AwaitingStart (R30, first and last clause). -/
theorem BlockInv.of_awaitingStart {s : State} (hwf : s.fb.wf = true) (hs : s.rxState = awaitingStart) (hcnt : s.rxCnt = 0)
    (hvalid : s.frameValid = true → s.frameLen ≤ maxPayload ∧ s.fb.read markerIndex = s.config.startMarker ∧
      leHalf (s.fb.read (crcLoIndex s.frameLen)) (s.fb.read (crcHiIndex s.frameLen)) =
        crc16 (s.fbBytes lengthIndex (3 + s.frameLen))) : BlockInv s where
  fbCanonical := hwf
  stateLegal := .inl hs
  start _ := hcnt
  header h := absurd (h.symm.trans hs) awaitingHeader_ne_awaitingStart
  body h := absurd (h.symm.trans hs) awaitingBody_ne_awaitingStart
  valid h := ⟨hs, hvalid h⟩

/-- The invariant inside a header (R30, second clause). -/
theorem BlockInv.of_awaitingHeader {s : State} (hwf : s.fb.wf = true) (hs : s.rxState = awaitingHeader)
    (hv : s.frameValid = false) (hcnt : s.rxCnt.toNat ≤ 2) (hlen : 1 ≤ s.rxCnt.toNat → s.frameLen ≤ maxPayload)
    (hmarker : s.fb.read markerIndex = s.config.startMarker)
    (hcrc : s.rxCrc = crc16 (s.fbBytes lengthIndex s.rxCnt.toNat)) : BlockInv s where
  fbCanonical := hwf
  stateLegal := .inr (.inl hs)
  start h := absurd (hs.symm.trans h) awaitingHeader_ne_awaitingStart
  header _ := ⟨hcnt, hlen, hmarker, hcrc⟩
  body h := absurd (h.symm.trans hs) awaitingBody_ne_awaitingHeader
  valid h := absurd (hv.symm.trans h) Bool.false_ne_true

/-- The invariant inside a body (R30, third clause). -/
theorem BlockInv.of_awaitingBody {s : State} (hwf : s.fb.wf = true) (hs : s.rxState = awaitingBody)
    (hv : s.frameValid = false) (hlen : s.frameLen ≤ maxPayload) (hexp : s.rxExp.toNat = 3 + s.frameLen + 2)
    (hcnt : s.rxCnt.toNat ≤ s.frameLen + 1) (hmarker : s.fb.read markerIndex = s.config.startMarker)
    (hcrc : s.rxCrc = crc16 (s.fbBytes lengthIndex (3 + min s.rxCnt.toNat s.frameLen))) : BlockInv s where
  fbCanonical := hwf
  stateLegal := .inr (.inr hs)
  start h := absurd (hs.symm.trans h) awaitingBody_ne_awaitingStart
  header h := absurd (hs.symm.trans h) awaitingBody_ne_awaitingHeader
  body _ := ⟨hlen, hexp, hcnt, hmarker, hcrc⟩
  valid h := absurd (hv.symm.trans h) Bool.false_ne_true

/-- Clearing `FRAME_VALID`, as every feed first does (R25), keeps the invariant. -/
theorem BlockInv.clearValid {s : State} (h : BlockInv s) : BlockInv (s.setFrameValid false) :=
  ⟨h.fbCanonical, h.stateLegal, h.start, h.header, h.body, fun hv => absurd hv Bool.false_ne_true⟩

/-- Settles O55: at reset the unit is in AwaitingStart and no frame is readable. -/
theorem invAtReset : Obligations.InvAtReset :=
  .of_awaitingStart Memory.reset_wf rfl rfl fun h => absurd h Bool.false_ne_true

/-! A byte in AwaitingStart. -/

theorem BlockInv.beginFrame {s : State} (h : BlockInv s) (hv : s.frameValid = false) :
    BlockInv (beginFrame s.config.startMarker s) :=
  .of_awaitingHeader (Memory.write_wf _ (by decide) h.fbCanonical) rfl hv (Nat.zero_le _)
    (fun h1 => absurd h1 (Nat.not_succ_le_zero 0)) (by simp [Machine.beginFrame]) rfl

/-! A byte in AwaitingHeader. -/

theorem BlockInv.dropFrame {s : State} (h : BlockInv s) (hv : s.frameValid = false) : BlockInv (dropFrame s) :=
  .of_awaitingStart h.fbCanonical rfl rfl fun hv' => absurd (hv.symm.trans hv') Bool.false_ne_true

/-- A header byte that is not an illegal length leaves a legal length in the buffer: it is the length itself, or it goes to
a later cell. -/
theorem BlockInv.frameLen_headerTaken {b : Byte} {s : State} (h : BlockInv s) (hs : s.rxState = awaitingHeader)
    (hb : illegalLength b s = false) : (headerTaken b s).frameLen ≤ maxPayload := by
  obtain ⟨-, hlen, -, -⟩ := h.header hs
  change ((s.fb.write (headerIndex s) b).read lengthIndex).toNat ≤ maxPayload
  rw [Memory.read_write]
  split
  · rename_i h1
    have hcnt : s.rxCnt = 0 := by unfold headerIndex lengthIndex at h1; bv_omega
    by_contra hlt
    rw [illegalLength_iff.mpr ⟨hcnt, by omega⟩] at hb
    cases hb
  · rename_i h1
    exact hlen (by unfold headerIndex lengthIndex at h1; omega)

theorem BlockInv.rxCrc_headerTaken {b : Byte} {s : State} (h : BlockInv s) (hs : s.rxState = awaitingHeader) :
    (headerTaken b s).rxCrc = crc16 ((headerTaken b s).fbBytes lengthIndex (s.rxCnt.toNat + 1)) := by
  obtain ⟨-, -, -, hcrc⟩ := h.header hs
  rw [State.fbBytes_write_next (s := s) (b := b) rfl, crc16_concat, ← hcrc]
  rfl

theorem read_marker_headerTaken (b : Byte) (s : State) :
    (headerTaken b s).fb.read markerIndex = s.fb.read markerIndex := by
  change (s.fb.write (headerIndex s) b).read markerIndex = _
  rw [Memory.read_write, if_neg (by unfold headerIndex markerIndex; omega)]

theorem BlockInv.wf_headerTaken {s : State} (h : BlockInv s) (hs : s.rxState = awaitingHeader) (b : Byte) :
    (headerTaken b s).fb.wf = true :=
  Memory.write_wf b ((h.headerIndex_le hs).trans_lt (by decide)) h.fbCanonical

/-- A header byte before the third is counted. -/
theorem BlockInv.countByte_headerTaken {b : Byte} {s : State} (h : BlockInv s) (hv : s.frameValid = false)
    (hs : s.rxState = awaitingHeader) (hb : illegalLength b s = false) (h2 : s.rxCnt ≠ 2) :
    BlockInv (countByte (headerTaken b s)) := by
  obtain ⟨hcnt, -, hmarker, -⟩ := h.header hs
  have hsucc : (s.rxCnt + 1).toNat = s.rxCnt.toNat + 1 := by bv_omega
  exact .of_awaitingHeader (h.wf_headerTaken hs b) hs hv
    (by change (s.rxCnt + 1).toNat ≤ 2; bv_omega)
    (fun _ => h.frameLen_headerTaken hs hb) ((read_marker_headerTaken b s).trans hmarker)
    (by change _ = crc16 (State.fbBytes _ _ (s.rxCnt + 1).toNat); rw [hsucc]; exact h.rxCrc_headerTaken hs)

/-- The third byte of the header begins the body. -/
theorem BlockInv.beginBody_headerTaken {b : Byte} {s : State} (h : BlockInv s) (hv : s.frameValid = false)
    (hs : s.rxState = awaitingHeader) (hb : illegalLength b s = false) (h2 : s.rxCnt = 2) :
    BlockInv (beginBody (headerTaken b s)) := by
  obtain ⟨-, -, hmarker, -⟩ := h.header hs
  have hlen := h.frameLen_headerTaken hs hb
  have hcrc := h.rxCrc_headerTaken (b := b) hs
  rw [h2] at hcrc
  have hexp : (BitVec.ofNat 8 (3 + (headerTaken b s).frameLen + 2)).toNat = 3 + (headerTaken b s).frameLen + 2 := by
    unfold maxPayload at hlen; rw [BitVec.toNat_ofNat]; omega
  exact .of_awaitingBody (h.wf_headerTaken hs b) rfl hv hlen hexp (Nat.zero_le _)
    ((read_marker_headerTaken b s).trans hmarker) hcrc

/-! A byte in AwaitingBody. -/

/-- A body byte leaves the four cells of the header as they are. -/
theorem read_bodyTaken_of_lt {a : Nat} (b : Byte) (s : State) (ha : a < headerSize) :
    (bodyTaken b s).fb.read a = s.fb.read a := by
  change (s.fb.write (bodyIndex s) b).read a = _
  rw [Memory.read_write, if_neg (by unfold bodyIndex; omega)]

theorem frameLen_bodyTaken (b : Byte) (s : State) : (bodyTaken b s).frameLen = s.frameLen :=
  congrArg BitVec.toNat (read_bodyTaken_of_lt b s (by decide))

theorem BlockInv.wf_bodyTaken {s : State} (h : BlockInv s) (hs : s.rxState = awaitingBody) (b : Byte) :
    (bodyTaken b s).fb.wf = true := by
  obtain ⟨hlen, -, -, -, -⟩ := h.body hs
  exact Memory.write_wf b ((h.bodyIndex_le hs).trans_lt (crcHiIndex_lt_fbSize hlen)) h.fbCanonical

/-- `RX_CRC` covers one payload byte more, or, after the payload, what it covered (R127). -/
theorem BlockInv.rxCrc_bodyTaken {b : Byte} {s : State} (h : BlockInv s) (hs : s.rxState = awaitingBody) :
    (bodyTaken b s).rxCrc = crc16 ((bodyTaken b s).fbBytes lengthIndex (3 + min (s.rxCnt.toNat + 1) s.frameLen)) := by
  obtain ⟨-, -, -, -, hcrc⟩ := h.body hs
  change (if s.rxCnt < s.fb.read lengthIndex then crcStep s.rxCrc b else s.rxCrc) = _
  split
  · rename_i hlt
    have hlt : s.rxCnt.toNat < s.frameLen := hlt
    rw [min_eq_left (by omega)] at hcrc ⊢
    have hfb : (bodyTaken b s).fb = s.fb.write (lengthIndex + (3 + s.rxCnt.toNat)) b := by
      change s.fb.write (bodyIndex s) b = _
      congr 1
      unfold bodyIndex headerSize lengthIndex
      omega
    rw [← Nat.add_assoc, State.fbBytes_write_next hfb, crc16_concat, ← hcrc]
  · rename_i hge
    have hge : s.frameLen ≤ s.rxCnt.toNat := Nat.le_of_not_lt hge
    rw [min_eq_right (by omega)] at hcrc ⊢
    have hle : lengthIndex + (3 + s.frameLen) ≤ bodyIndex s := by unfold bodyIndex headerSize lengthIndex; omega
    rw [State.fbBytes_write_of_le (s := s) (b := b) rfl hle, hcrc]

/-- The byte that completes the frame is its last one: `RX_EXP` counts the header after the marker and the checksum. -/
theorem BlockInv.completesFrame_iff {s : State} (h : BlockInv s) (hs : s.rxState = awaitingBody) :
    completesFrame s = true ↔ s.rxCnt.toNat = s.frameLen + 1 := by
  obtain ⟨-, hexp, -, -, -⟩ := h.body hs
  rw [Machine.completesFrame_iff, hexp]
  omega

/-- A body byte before the last is counted. -/
theorem BlockInv.countByte_bodyTaken {b : Byte} {s : State} (h : BlockInv s) (hv : s.frameValid = false)
    (hs : s.rxState = awaitingBody) (hc : completesFrame s = false) : BlockInv (countByte (bodyTaken b s)) := by
  obtain ⟨hlen, hexp, hcnt, hmarker, -⟩ := h.body hs
  have hne : s.rxCnt.toNat ≠ s.frameLen + 1 := fun he => by
    rw [(h.completesFrame_iff hs).mpr he] at hc; cases hc
  have hsucc : (s.rxCnt + 1).toNat = s.rxCnt.toNat + 1 := by unfold maxPayload at hlen; bv_omega
  have hfl : (countByte (bodyTaken b s)).frameLen = s.frameLen := frameLen_bodyTaken b s
  have hcnt' : (countByte (bodyTaken b s)).rxCnt.toNat = s.rxCnt.toNat + 1 := hsucc
  refine .of_awaitingBody (h.wf_bodyTaken hs b) hs hv ?_ ?_ ?_ ?_ ?_
  · rw [hfl]; exact hlen
  · rw [hfl]; exact hexp
  · omega
  · exact (read_bodyTaken_of_lt b s (by decide)).trans hmarker
  · rw [hcnt', hfl]; exact h.rxCrc_bodyTaken hs

/-- The last byte of a frame returns the unit to AwaitingStart, with a readable frame if the checksum verifies. -/
theorem BlockInv.endFrame_bodyTaken {b : Byte} {s : State} (h : BlockInv s) (hv : s.frameValid = false)
    (hs : s.rxState = awaitingBody) (hc : completesFrame s = true) :
    BlockInv (endFrame (s.fb.read lengthIndex) (bodyTaken b s)) := by
  obtain ⟨hlen, -, -, hmarker, -⟩ := h.body hs
  have hcnt := (h.completesFrame_iff hs).mp hc
  have hcrc := h.rxCrc_bodyTaken (b := b) hs
  rw [min_eq_right (by omega)] at hcrc
  unfold endFrame
  split
  · rename_i hm
    have hm : leHalf ((bodyTaken b s).fb.read (crcLoIndex s.frameLen)) ((bodyTaken b s).fb.read (crcHiIndex s.frameLen)) =
      (bodyTaken b s).rxCrc := eq_of_beq hm
    have hfl : (acceptFrame (s.fb.read lengthIndex) (bodyTaken b s)).frameLen = s.frameLen := frameLen_bodyTaken b s
    refine .of_awaitingStart (h.wf_bodyTaken hs b) rfl rfl fun _ => ?_
    rw [hfl]
    exact ⟨hlen, (read_bodyTaken_of_lt b s (by decide)).trans hmarker, hm.trans hcrc⟩
  · exact .of_awaitingStart (h.wf_bodyTaken hs b) rfl rfl fun hv' => absurd (hv.symm.trans hv') Bool.false_ne_true

/-! What a feed answers in a state that meets the invariant: it never faults (R30). -/

theorem BlockInv.rxFeedHeader_eq {s : State} (h : BlockInv s) (hs : s.rxState = awaitingHeader) (b : Byte) :
    rxFeedHeader b s = .next (if illegalLength b s then Machine.dropFrame s
      else if s.rxCnt = 2 then beginBody (headerTaken b s) else countByte (headerTaken b s)) := by
  rw [Machine.rxFeedHeader_eq, if_pos ((h.headerIndex_le hs).trans_lt (by decide)), rxHeaderWritten_eq]
  split
  · rfl
  · rename_i hb
    have hlen := h.frameLen_headerTaken hs (Bool.eq_false_iff.mpr hb)
    rw [if_pos (show 3 + (headerTaken b s).frameLen + 2 < 256 by unfold maxPayload at hlen; omega)]
    exact (apply_ite Host.Outcome.next _ _ _).symm

theorem BlockInv.rxFeedBody_eq {s : State} (h : BlockInv s) (hs : s.rxState = awaitingBody) (b : Byte) :
    rxFeedBody b s = .next (if completesFrame s then endFrame (s.fb.read lengthIndex) (bodyTaken b s)
      else countByte (bodyTaken b s)) := by
  obtain ⟨hlen, -, -, -, -⟩ := h.body hs
  have hhi : crcHiIndex (s.fb.read lengthIndex).toNat < fbSize := crcHiIndex_lt_fbSize hlen
  rw [Machine.rxFeedBody_eq, if_pos ((h.bodyIndex_le hs).trans_lt hhi), rxComplete_eq, if_pos hhi]
  exact (apply_ite Host.Outcome.next _ _ _).symm

/-- From a state that meets the invariant a feed answers a next state, and that state meets it. -/
theorem BlockInv.execRxFeed {s : State} (h : BlockInv s) (b : Byte) : ∃ t, execRxFeed b s = .next t ∧ BlockInv t := by
  have h' := h.clearValid
  obtain hs | hs | hs := h.stateLegal
  · rw [execRxFeed_awaitingStart hs, rxFeedStart_eq_beginFrame]
    refine ⟨_, rfl, ?_⟩
    split
    · rename_i hb; subst hb; exact h'.beginFrame rfl
    · exact h'.of_withRxOf rfl rfl
  · rw [execRxFeed_awaitingHeader hs, h'.rxFeedHeader_eq hs]
    refine ⟨_, rfl, ?_⟩
    split
    · exact h'.dropFrame rfl
    · rename_i hb
      have hb := Bool.eq_false_iff.mpr hb
      split
      · rename_i h2; exact h'.beginBody_headerTaken rfl hs hb h2
      · rename_i h2; exact h'.countByte_headerTaken rfl hs hb h2
  · rw [execRxFeed_awaitingBody hs, h'.rxFeedBody_eq hs]
    refine ⟨_, rfl, ?_⟩
    split
    · rename_i hc; exact h'.endFrame_bodyTaken rfl hs hc
    · rename_i hc; exact h'.countByte_bodyTaken rfl hs (Bool.eq_false_iff.mpr hc)

/-- Every command keeps the invariant. -/
theorem BlockInv.exec {i : Instr} {s t : State} (h : BlockInv s) (he : exec i s = .next t) : BlockInv t := by
  obtain ⟨b, rfl, -⟩ | ⟨rfl, -⟩ | ⟨-, -, hrx, hcfg⟩ := exec_eq_next he
  · obtain ⟨u, hu, hinv⟩ := h.execRxFeed b
    cases hu.symm.trans he
    exact hinv
  · cases he
    exact .of_awaitingStart h.fbCanonical rfl rfl fun hv => absurd hv Bool.false_ne_true
  · exact h.of_withRxOf hrx hcfg

/-- Settles O56, by what a step can do: an illegal word changes no register, and every command keeps the invariant. -/
theorem stepKeepsInv : Obligations.StepKeepsInv := by
  intro s t h hstep
  obtain ⟨-, rfl⟩ | ⟨w, rest, -, ⟨e, -, rfl⟩ | ⟨i, -, he⟩⟩ := step_eq_next hstep
  · exact h
  · exact h.of_withRxOf rfl rfl
  · have hissued : BlockInv (s.setCommands rest) := h.of_withRxOf rfl rfl
    exact hissued.exec he

end Sys2Proof.Machine
end

section
/-! What `TX_SEND` neither reads nor writes, it does not see: updates of that part commute with it (R48, R155). -/

namespace Sys2Proof.Machine

/-- An update of the state that leaves alone what `TX_SEND` reads, and that each of the changes `TX_SEND` makes can follow
as well as precede. -/
structure TxBlind (f : State → State) : Prop where
  config (s : State) : (f s).config = s.config
  nextAllocAnswer (s : State) : (f s).nextAllocAnswer = s.nextAllocAnswer
  payload (s : State) : (f s).payload = s.payload
  respond (s : State) (st : Status) (d : Half) : f (s.respond st d) = (f s).respond st d
  afterAlloc (s : State) (n : Nat) : f (s.afterAlloc n) = (f s).afterAlloc n
  setPayload (s : State) (ps : List Byte) : f (s.setPayload ps) = (f s).setPayload ps
  hostEnqueue (s : State) (buf : Memory) (n : Nat) : f (s.hostEnqueue buf n) = (f s).hostEnqueue buf n

theorem TxBlind.setCrcAcc (v : Half) : TxBlind (·.setCrcAcc v) :=
  ⟨fun _ => rfl, fun _ => rfl, fun _ => rfl, fun _ _ _ => rfl, fun _ _ => rfl, fun _ _ => rfl, fun _ _ _ => rfl⟩

theorem TxBlind.withRxOf (r : State) : TxBlind (·.withRxOf r) :=
  ⟨fun _ => rfl, fun _ => rfl, fun _ => rfl, fun _ _ _ => rfl, fun _ _ => rfl, fun _ _ => rfl, fun _ _ _ => rfl⟩

theorem TxBlind.txPayload {f : State → State} (hf : TxBlind f) (n k : Nat) (w : TxWork) (s : State) :
    txPayload n k w (f s) = andThen (txPayload n k w s) fun r => .next (r.1, f r.2) := by
  induction n generalizing k w s with
  | zero => rfl
  | succ n ih =>
    cases hp : s.payload with
    | nil => simp [Machine.txPayload, State.payloadRead_nil hp, State.payloadRead_nil ((hf.payload s).trans hp)]
    | cons p rest =>
      simp [Machine.txPayload, State.payloadRead_cons hp, State.payloadRead_cons ((hf.payload s).trans hp),
        ← hf.setPayload, ih]

theorem TxBlind.txSerialize {f : State → State} (hf : TxBlind f) (comp msg len : Byte) (s : State) :
    txSerialize comp msg len (f s) = andThen (txSerialize comp msg len s) fun t => .next (f t) := by
  simp [Machine.txSerialize, hf.config, hf.txPayload, andThen_assoc, hf.respond, hf.hostEnqueue]

theorem TxBlind.execTxSend {f : State → State} (hf : TxBlind f) (comp msg len : Byte) (s : State) :
    execTxSend comp msg len (f s) = andThen (execTxSend comp msg len s) fun t => .next (f t) := by
  unfold Machine.execTxSend
  rw [hf.nextAllocAnswer]
  split
  · simp [hf.respond]
  · cases s.nextAllocAnswer with
    | denied => simp [hf.respond, hf.afterAlloc]
    | granted => simp only [← hf.afterAlloc, hf.txSerialize]

end Sys2Proof.Machine
end

section
/-! `CRC_ACC` is seen by no RX or TX command, and hence written by none (R21, R48). -/

namespace Sys2Proof.Machine

theorem andThen_ite {α β : Type} (c : Prop) [Decidable c] (o o' : Result α) (k : α → Result β) :
    andThen (if c then o else o') k = if c then andThen o k else andThen o' k :=
  apply_ite (andThen · k) c o o'

theorem endFrame_setCrcAcc (n : Byte) (s : State) (v : Half) : endFrame n (s.setCrcAcc v) = (endFrame n s).setCrcAcc v := by
  rw [endFrame, endFrame, apply_ite (State.setCrcAcc · v)]
  rfl

theorem rxFeedStart_setCrcAcc (b : Byte) (s : State) (v : Half) :
    rxFeedStart b (s.setCrcAcc v) = andThen (rxFeedStart b s) fun t => .next (t.setCrcAcc v) := by
  rw [rxFeedStart_eq_beginFrame, rxFeedStart_eq_beginFrame, andThen_next, apply_ite (State.setCrcAcc · v)]
  rfl

theorem rxHeaderWritten_setCrcAcc (s : State) (v : Half) :
    rxHeaderWritten (s.setCrcAcc v) = andThen (rxHeaderWritten s) fun t => .next (t.setCrcAcc v) := by
  rw [rxHeaderWritten_eq, rxHeaderWritten_eq, andThen_ite, andThen_ite]
  rfl

theorem rxFeedHeader_setCrcAcc (b : Byte) (s : State) (v : Half) :
    rxFeedHeader b (s.setCrcAcc v) = andThen (rxFeedHeader b s) fun t => .next (t.setCrcAcc v) := by
  rw [rxFeedHeader_eq, rxFeedHeader_eq, andThen_ite, andThen_ite, ← rxHeaderWritten_setCrcAcc]
  rfl

theorem rxComplete_setCrcAcc (n : Byte) (s : State) (v : Half) :
    rxComplete n (s.setCrcAcc v) = andThen (rxComplete n s) fun t => .next (t.setCrcAcc v) := by
  rw [rxComplete_eq, rxComplete_eq, andThen_ite, endFrame_setCrcAcc]
  rfl

theorem rxFeedBody_setCrcAcc (b : Byte) (s : State) (v : Half) :
    rxFeedBody b (s.setCrcAcc v) = andThen (rxFeedBody b s) fun t => .next (t.setCrcAcc v) := by
  rw [rxFeedBody_eq, rxFeedBody_eq, andThen_ite, andThen_ite, ← rxComplete_setCrcAcc]
  rfl

theorem execRxFeed_setCrcAcc (b : Byte) (s : State) (v : Half) :
    execRxFeed b (s.setCrcAcc v) = andThen (execRxFeed b s) fun t => .next (t.setCrcAcc v) := by
  unfold execRxFeed
  rw [andThen_ite, andThen_ite, andThen_ite, ← rxFeedStart_setCrcAcc, ← rxFeedHeader_setCrcAcc, ← rxFeedBody_setCrcAcc]
  rfl

theorem execRxRead_setCrcAcc (i : Byte) (s : State) (v : Half) :
    execRxRead i (s.setCrcAcc v) = andThen (execRxRead i s) fun t => .next (t.setCrcAcc v) := by
  rw [execRxRead_eq, execRxRead_eq, andThen_next, apply_ite (State.setCrcAcc · v), apply_ite (State.setCrcAcc · v)]
  rfl

/-- A command of the RX or TX unit behaves the same whatever `CRC_ACC` holds. -/
theorem exec_setCrcAcc {i : Instr} (hi : unitOf i ≠ .crc) (s : State) (v : Half) :
    exec i (s.setCrcAcc v) = andThen (exec i s) fun t => .next (t.setCrcAcc v) := by
  cases i with
  | crcInit | crcSeed _ | crcUpdate _ | crcRead => exact absurd rfl hi
  | rxReset | rxStatus => rfl
  | rxFeed b => exact execRxFeed_setCrcAcc b s v
  | rxRead i => exact execRxRead_setCrcAcc i s v
  | txSend comp msg len => exact (TxBlind.setCrcAcc v).execTxSend comp msg len s

/-- It therefore leaves `CRC_ACC` alone: setting it to what it holds anyway, before the command or after it, is the same. -/
theorem exec_keeps_crcAcc {i : Instr} (hi : unitOf i ≠ .crc) {s t : State} (h : exec i s = .next t) :
    t.crcAcc = s.crcAcc := by
  have hset := exec_setCrcAcc hi s s.crcAcc
  rw [show s.setCrcAcc s.crcAcc = s from rfl, h, andThen_next] at hset
  have ht : t = t.setCrcAcc s.crcAcc := Host.Outcome.next.inj hset
  exact (congrArg State.crcAcc ht).trans (State.setCrcAcc_crcAcc t s.crcAcc)

/-- Settles O25: the commands of the CRC unit one by one, the others by `exec_keeps_crcAcc`. -/
theorem crcAccBelongsToTheCrcUnit : Obligations.CrcAccBelongsToTheCrcUnit := by
  refine ⟨fun i s t he => ?_, fun i s v hi => exec_setCrcAcc hi s v⟩
  by_cases hi : unitOf i = .crc
  · cases i with
    | crcInit => exact .inl rfl
    | crcSeed h => exact .inr (.inl ⟨h, rfl⟩)
    | crcUpdate b => exact .inr (.inr (.inl ⟨b, rfl⟩))
    | crcRead => cases he; exact .inr (.inr (.inr rfl))
    | rxReset | rxFeed _ | rxRead _ | rxStatus | txSend _ _ _ => cases hi
  · exact .inr (.inr (.inr (exec_keeps_crcAcc hi he)))

end Sys2Proof.Machine
end

section
/-! Two states that a host cannot tell apart answer every command alike and stay alike (R31). -/

namespace Sys2Proof.Machine

/-- Two runs that a host cannot tell apart: both go on, in states that look alike, or both are refused for one reason. -/
def AnswerAlike (o o' : Result State) : Prop :=
  match o, o' with
  | .next s, .next t => LooksAlike s t
  | .refused r, .refused r' => r = r'
  | _, _ => False

/-- `s` with other values in the fields that two states that look alike need not share. -/
def State.withHidden (s : State) (m : Memory) (crc : Half) (exp : Byte) : State :=
  { s with fb := m, rxCrc := crc, rxExp := exp }

theorem LooksAlike.exists_eq_withHidden {s t : State} (h : LooksAlike s t) : ∃ m crc exp, t = s.withHidden m crc exp :=
  ⟨_, _, _, h.rest⟩

theorem LooksAlike.rxState_eq {s t : State} (h : LooksAlike s t) : t.rxState = s.rxState := by rw [h.rest]
theorem LooksAlike.rxCnt_eq {s t : State} (h : LooksAlike s t) : t.rxCnt = s.rxCnt := by rw [h.rest]
theorem LooksAlike.frameValid_eq {s t : State} (h : LooksAlike s t) : t.frameValid = s.frameValid := by rw [h.rest]
theorem LooksAlike.config_eq {s t : State} (h : LooksAlike s t) : t.config = s.config := by rw [h.rest]
theorem LooksAlike.commands_eq {s t : State} (h : LooksAlike s t) : t.commands = s.commands := by rw [h.rest]

/-! How many cells are live. -/

theorem liveCells_of_valid {s : State} (hv : s.frameValid = true) : s.liveCells = s.frameLen + 6 := by
  simp [State.liveCells, hv]

theorem liveCells_of_awaitingStart {s : State} (hv : s.frameValid = false) (hs : s.rxState = awaitingStart) :
    s.liveCells = 0 := by
  simp [State.liveCells, hv, hs, awaitingHeader_ne_awaitingStart.symm, awaitingBody_ne_awaitingStart.symm]

theorem liveCells_of_awaitingHeader {s : State} (hv : s.frameValid = false) (hs : s.rxState = awaitingHeader) :
    s.liveCells = 1 + s.rxCnt.toNat := by
  simp [State.liveCells, hv, hs]

theorem liveCells_of_awaitingBody {s : State} (hv : s.frameValid = false) (hs : s.rxState = awaitingBody) :
    s.liveCells = 4 + s.rxCnt.toNat := by
  simp [State.liveCells, hv, hs, awaitingBody_ne_awaitingHeader]

theorem LooksAlike.frameLen_eq {s t : State} (h : LooksAlike s t) (hlive : 1 < s.liveCells) : s.frameLen = t.frameLen :=
  congrArg BitVec.toNat (h.fb lengthIndex hlive)

/-! How two states look alike after a change. -/

/-- Only the RX unit counts. -/
theorem LooksAlike.withRxOf {s t : State} (h : LooksAlike s t) (u : State) :
    LooksAlike (u.withRxOf s) (u.withRxOf t) := by
  obtain ⟨m, crc, exp, rfl⟩ := h.exists_eq_withHidden
  exact ⟨h.fb, h.rxCrc, h.rxExp, rfl⟩

theorem LooksAlike.respond {s t : State} (h : LooksAlike s t) (st : Status) (d : Half) :
    LooksAlike (s.respond st d) (t.respond st d) := by
  obtain ⟨m, crc, exp, rfl⟩ := h.exists_eq_withHidden
  exact ⟨h.fb, h.rxCrc, h.rxExp, rfl⟩

theorem LooksAlike.setCommands {s t : State} (h : LooksAlike s t) (ws : List Word) :
    LooksAlike (s.setCommands ws) (t.setCommands ws) := by
  obtain ⟨m, crc, exp, rfl⟩ := h.exists_eq_withHidden
  exact ⟨h.fb, h.rxCrc, h.rxExp, rfl⟩

/-- In AwaitingStart with no readable frame everything hidden may differ. -/
theorem LooksAlike.of_awaitingStart {s : State} (hv : s.frameValid = false) (hs : s.rxState = awaitingStart) (m : Memory)
    (crc : Half) (exp : Byte) : LooksAlike s (s.withHidden m crc exp) where
  fb a ha := absurd ha (by rw [liveCells_of_awaitingStart hv hs]; exact Nat.not_lt_zero a)
  rxCrc hne := absurd hs hne
  rxExp hb := absurd (hb.symm.trans hs) awaitingBody_ne_awaitingStart
  rest := rfl

/-- Clearing `FRAME_VALID`, as every feed first does, makes cells dead and none live. -/
theorem LooksAlike.clearValid {s t : State} (h : LooksAlike s t) (hinv : BlockInv s) :
    LooksAlike (s.setFrameValid false) (t.setFrameValid false) := by
  obtain ⟨m, crc, exp, rfl⟩ := h.exists_eq_withHidden
  by_cases hs : s.rxState = awaitingStart
  · exact LooksAlike.of_awaitingStart (s := s.setFrameValid false) rfl hs m crc exp
  · have hv : s.frameValid = false := Bool.eq_false_iff.mpr fun hv => hs (hinv.valid hv).1
    have hclear : s.setFrameValid false = s := by rw [← hv]; rfl
    refine ⟨?_, h.rxCrc, h.rxExp, rfl⟩
    rw [hclear]
    exact h.fb

/-- One byte more, written to the first dead cell of both buffers. -/
theorem Memory.read_write_agree {m m' : Memory} {k : Nat} (h : ∀ a, a < k → m.read a = m'.read a) (b : Byte) :
    ∀ a, a < k + 1 → (m.write k b).read a = (m'.write k b).read a := by
  intro a ha
  rw [Memory.read_write, Memory.read_write]
  split
  · rfl
  · exact h a (by omega)

/-! A byte in each state of the RX unit. -/

theorem LooksAlike.beginFrame {s t : State} (h : LooksAlike s t) (hv : s.frameValid = false) (b : Byte) :
    LooksAlike (beginFrame b s) (beginFrame b t) := by
  obtain ⟨m, crc, exp, rfl⟩ := h.exists_eq_withHidden
  refine ⟨?_, fun _ => rfl, fun hb => absurd hb awaitingBody_ne_awaitingHeader.symm, rfl⟩
  rw [liveCells_of_awaitingHeader (s := Machine.beginFrame b s) hv rfl]
  exact Memory.read_write_agree (m := s.fb) (m' := m) (k := markerIndex) (fun a ha => absurd ha (Nat.not_lt_zero a)) b

theorem LooksAlike.dropFrame {s t : State} (h : LooksAlike s t) (hv : s.frameValid = false) :
    LooksAlike (dropFrame s) (dropFrame t) := by
  obtain ⟨m, crc, exp, rfl⟩ := h.exists_eq_withHidden
  exact LooksAlike.of_awaitingStart (s := Machine.dropFrame s) hv rfl m crc exp

/-- The header bytes so far, the one just written among them, are in both buffers. -/
theorem LooksAlike.fb_headerTaken {s t : State} (h : LooksAlike s t) (hv : s.frameValid = false)
    (hs : s.rxState = awaitingHeader) (b : Byte) :
    ∀ a, a < 2 + s.rxCnt.toNat → (headerTaken b s).fb.read a = (headerTaken b t).fb.read a := by
  have hfb := h.fb
  rw [liveCells_of_awaitingHeader hv hs] at hfb
  have hcnt : headerIndex t = headerIndex s := by
    obtain ⟨m, crc, exp, rfl⟩ := h.exists_eq_withHidden; rfl
  intro a ha
  change (s.fb.write (headerIndex s) b).read a = (t.fb.write (headerIndex t) b).read a
  rw [hcnt]
  exact Memory.read_write_agree hfb b a (by omega)

theorem LooksAlike.rxCrc_headerTaken {s t : State} (h : LooksAlike s t) (hs : s.rxState = awaitingHeader) (b : Byte) :
    (headerTaken b s).rxCrc = (headerTaken b t).rxCrc :=
  congrArg (crcStep · b) (h.rxCrc (hs ▸ awaitingHeader_ne_awaitingStart))

theorem LooksAlike.countByte_headerTaken {s t : State} (h : LooksAlike s t) (hv : s.frameValid = false)
    (hs : s.rxState = awaitingHeader) (hcnt : s.rxCnt.toNat ≤ 2) (b : Byte) :
    LooksAlike (countByte (headerTaken b s)) (countByte (headerTaken b t)) := by
  have hfb := h.fb_headerTaken hv hs b
  have hcrc := h.rxCrc_headerTaken hs b
  obtain ⟨m, crc, exp, rfl⟩ := h.exists_eq_withHidden
  refine ⟨?_, fun _ => hcrc, fun hb => absurd (hb.symm.trans hs) awaitingBody_ne_awaitingHeader, rfl⟩
  have hsucc : (countByte (headerTaken b s)).rxCnt.toNat = s.rxCnt.toNat + 1 := by
    change (s.rxCnt + 1).toNat = _; bv_omega
  rw [liveCells_of_awaitingHeader (s := countByte (headerTaken b s)) hv hs, hsucc]
  exact fun a ha => hfb a (by omega)

theorem LooksAlike.beginBody_headerTaken {s t : State} (h : LooksAlike s t) (hv : s.frameValid = false)
    (hs : s.rxState = awaitingHeader) (hcnt : s.rxCnt = 2) (b : Byte) :
    LooksAlike (beginBody (headerTaken b s)) (beginBody (headerTaken b t)) := by
  have hfb := h.fb_headerTaken hv hs b
  rw [hcnt] at hfb
  have hcrc := h.rxCrc_headerTaken hs b
  have hlen : (headerTaken b s).frameLen = (headerTaken b t).frameLen :=
    congrArg BitVec.toNat (hfb lengthIndex (by decide))
  obtain ⟨m, crc, exp, rfl⟩ := h.exists_eq_withHidden
  refine ⟨?_, fun _ => hcrc, fun _ => congrArg (fun n => BitVec.ofNat 8 (3 + n + 2)) hlen, rfl⟩
  rw [liveCells_of_awaitingBody (s := beginBody (headerTaken b s)) hv rfl]
  exact hfb

/-- A body byte finds one payload length in both buffers. -/
theorem LooksAlike.read_length {s t : State} (h : LooksAlike s t) (hv : s.frameValid = false)
    (hs : s.rxState = awaitingBody) : s.fb.read lengthIndex = t.fb.read lengthIndex := by
  refine h.fb lengthIndex ?_
  rw [liveCells_of_awaitingBody hv hs]
  unfold lengthIndex
  omega

/-- The bytes of the frame so far, the one just written among them, are in both buffers. -/
theorem LooksAlike.fb_bodyTaken {s t : State} (h : LooksAlike s t) (hv : s.frameValid = false)
    (hs : s.rxState = awaitingBody) (b : Byte) :
    ∀ a, a < bodyIndex s + 1 → (bodyTaken b s).fb.read a = (bodyTaken b t).fb.read a := by
  have hfb := h.fb
  rw [liveCells_of_awaitingBody hv hs] at hfb
  obtain ⟨m, crc, exp, rfl⟩ := h.exists_eq_withHidden
  exact Memory.read_write_agree hfb b

/-- It is folded in both runs, or in none. -/
theorem LooksAlike.rxCrc_bodyTaken {s t : State} (h : LooksAlike s t) (hv : s.frameValid = false)
    (hs : s.rxState = awaitingBody) (b : Byte) : (bodyTaken b s).rxCrc = (bodyTaken b t).rxCrc := by
  have hn := h.read_length hv hs
  have hcrc := h.rxCrc (hs ▸ awaitingBody_ne_awaitingStart)
  obtain ⟨m, crc, exp, rfl⟩ := h.exists_eq_withHidden
  change (if s.rxCnt < s.fb.read lengthIndex then crcStep s.rxCrc b else s.rxCrc) =
    if s.rxCnt < m.read lengthIndex then crcStep crc b else crc
  rw [hn, hcrc]
  rfl

theorem LooksAlike.completesFrame_eq {s t : State} (h : LooksAlike s t) (hs : s.rxState = awaitingBody) :
    completesFrame s = completesFrame t := by
  have hexp := h.rxExp hs
  obtain ⟨m, crc, exp, rfl⟩ := h.exists_eq_withHidden
  obtain rfl : s.rxExp = exp := hexp
  rfl

theorem LooksAlike.countByte_bodyTaken {s t : State} (h : LooksAlike s t) (hv : s.frameValid = false)
    (hs : s.rxState = awaitingBody) (hcnt : bodyIndex s < fbSize) (b : Byte) :
    LooksAlike (countByte (bodyTaken b s)) (countByte (bodyTaken b t)) := by
  have hfb := h.fb_bodyTaken hv hs b
  have hcrc := h.rxCrc_bodyTaken hv hs b
  have hexp := h.rxExp hs
  obtain ⟨m, crc, exp, rfl⟩ := h.exists_eq_withHidden
  refine ⟨?_, fun _ => hcrc, fun _ => hexp, rfl⟩
  have hsucc : (countByte (bodyTaken b s)).rxCnt.toNat = s.rxCnt.toNat + 1 := by
    change (s.rxCnt + 1).toNat = _
    unfold bodyIndex headerSize fbSize at hcnt
    bv_omega
  rw [liveCells_of_awaitingBody (s := countByte (bodyTaken b s)) hv hs, hsucc]
  exact hfb

/-- The last byte of a frame finds one checksum in both buffers. -/
theorem LooksAlike.checksumVerifies_eq {s t : State} (h : LooksAlike s t) (hv : s.frameValid = false)
    (hs : s.rxState = awaitingBody) (hlast : bodyIndex s = crcHiIndex s.frameLen) (b : Byte) :
    checksumVerifies (s.fb.read lengthIndex) (bodyTaken b s) = checksumVerifies (s.fb.read lengthIndex) (bodyTaken b t) := by
  have hfb := h.fb_bodyTaken hv hs b
  have hlo := hfb (crcLoIndex s.frameLen) (by rw [hlast]; unfold crcLoIndex crcHiIndex; omega)
  have hhi := hfb (crcHiIndex s.frameLen) (by omega)
  rw [State.frameLen] at hlo hhi
  rw [checksumVerifies, checksumVerifies, hlo, hhi, h.rxCrc_bodyTaken hv hs b]

/-- An accepted frame makes the same cells readable: all of them are in both buffers. -/
theorem LooksAlike.acceptFrame_bodyTaken {s t : State} (h : LooksAlike s t) (hv : s.frameValid = false)
    (hs : s.rxState = awaitingBody) (hlast : bodyIndex s = crcHiIndex s.frameLen) (n b : Byte) :
    LooksAlike (acceptFrame n (bodyTaken b s)) (acceptFrame n (bodyTaken b t)) := by
  have hfb := h.fb_bodyTaken hv hs b
  obtain ⟨m, crc, exp, rfl⟩ := h.exists_eq_withHidden
  refine ⟨?_, fun hne => absurd rfl hne, fun hb => absurd hb awaitingBody_ne_awaitingStart.symm, rfl⟩
  have hlen : (acceptFrame n (bodyTaken b s)).frameLen = s.frameLen := frameLen_bodyTaken b s
  rw [liveCells_of_valid rfl, hlen]
  exact fun a ha => hfb a (by rw [hlast]; unfold crcHiIndex headerSize; omega)

theorem LooksAlike.rejectFrame_bodyTaken {s t : State} (h : LooksAlike s t) (hv : s.frameValid = false) (b : Byte) :
    LooksAlike (rejectFrame (bodyTaken b s)) (rejectFrame (bodyTaken b t)) := by
  obtain ⟨m, crc, exp, rfl⟩ := h.exists_eq_withHidden
  exact LooksAlike.of_awaitingStart (s := rejectFrame (bodyTaken b s)) hv rfl _ _ _

/-! The commands. -/

theorem LooksAlike.rxFeedStart {s t : State} (h : LooksAlike s t) (hv : s.frameValid = false) (b : Byte) :
    AnswerAlike (rxFeedStart b s) (rxFeedStart b t) := by
  have hcfg : t.config = s.config := h.config_eq
  rw [rxFeedStart_eq_beginFrame, rxFeedStart_eq_beginFrame, hcfg]
  change LooksAlike _ _
  split
  · exact h.beginFrame hv b
  · exact h.respond .incomplete 0

theorem LooksAlike.rxFeedHeader {s t : State} (h : LooksAlike s t) (hinv : BlockInv s) (hinv' : BlockInv t)
    (hv : s.frameValid = false) (hs : s.rxState = awaitingHeader) (b : Byte) :
    AnswerAlike (rxFeedHeader b s) (rxFeedHeader b t) := by
  have hstate : t.rxState = s.rxState := h.rxState_eq
  have hcnt : t.rxCnt = s.rxCnt := h.rxCnt_eq
  have hillegal : illegalLength b t = illegalLength b s := by rw [illegalLength, illegalLength, hcnt]
  rw [hinv.rxFeedHeader_eq hs, hinv'.rxFeedHeader_eq (hstate.trans hs), hillegal, hcnt]
  change LooksAlike _ _
  split
  · exact h.dropFrame hv
  · split
    · rename_i h2; exact h.beginBody_headerTaken hv hs h2 b
    · exact h.countByte_headerTaken hv hs (hinv.header hs).1 b

theorem LooksAlike.rxFeedBody {s t : State} (h : LooksAlike s t) (hinv : BlockInv s) (hinv' : BlockInv t)
    (hv : s.frameValid = false) (hs : s.rxState = awaitingBody) (b : Byte) :
    AnswerAlike (rxFeedBody b s) (rxFeedBody b t) := by
  have hstate : t.rxState = s.rxState := h.rxState_eq
  obtain ⟨hlen, -, -, -, -⟩ := hinv.body hs
  rw [hinv.rxFeedBody_eq hs, hinv'.rxFeedBody_eq (hstate.trans hs), ← h.completesFrame_eq hs, ← h.read_length hv hs]
  change LooksAlike _ _
  split
  · rename_i hc
    have hcnt := (hinv.completesFrame_iff hs).mp hc
    have hlast : bodyIndex s = crcHiIndex s.frameLen := by unfold bodyIndex crcHiIndex; omega
    rw [endFrame, endFrame, ← h.checksumVerifies_eq hv hs hlast b]
    split
    · exact h.acceptFrame_bodyTaken hv hs hlast _ b
    · exact h.rejectFrame_bodyTaken hv b
  · exact h.countByte_bodyTaken hv hs ((hinv.bodyIndex_le hs).trans_lt (crcHiIndex_lt_fbSize hlen)) b

theorem LooksAlike.execRxFeed {s t : State} (h : LooksAlike s t) (hinv : BlockInv s) (hinv' : BlockInv t) (b : Byte) :
    AnswerAlike (execRxFeed b s) (execRxFeed b t) := by
  have hstate : t.rxState = s.rxState := h.rxState_eq
  have hclear := h.clearValid hinv
  obtain hs | hs | hs := hinv.stateLegal
  · rw [execRxFeed_awaitingStart hs, execRxFeed_awaitingStart (hstate.trans hs)]
    exact hclear.rxFeedStart rfl b
  · rw [execRxFeed_awaitingHeader hs, execRxFeed_awaitingHeader (hstate.trans hs)]
    exact hclear.rxFeedHeader hinv.clearValid hinv'.clearValid rfl hs b
  · rw [execRxFeed_awaitingBody hs, execRxFeed_awaitingBody (hstate.trans hs)]
    exact hclear.rxFeedBody hinv.clearValid hinv'.clearValid rfl hs b

/-- A read reaches only the cells of the readable frame, and they are live. -/
theorem LooksAlike.execRxRead {s t : State} (h : LooksAlike s t) (i : Byte) :
    AnswerAlike (execRxRead i s) (execRxRead i t) := by
  have hvalid : t.frameValid = s.frameValid := h.frameValid_eq
  rw [execRxRead_eq, execRxRead_eq, hvalid]
  change LooksAlike _ _
  split
  · rename_i hv
    have hlive := liveCells_of_valid hv
    rw [← h.frameLen_eq (by omega)]
    split
    · exact h.respond .outOfFrame 0
    · rename_i hi
      rw [← h.fb i.toNat (by unfold frameSize headerSize checksumSize at hi; omega)]
      exact h.respond .ok _
  · exact h.respond .noFrame 0

theorem LooksAlike.execRxStatus {s t : State} (h : LooksAlike s t) : AnswerAlike (execRxStatus s) (execRxStatus t) := by
  have hsr : t.rxsr = s.rxsr := by obtain ⟨m, crc, exp, rfl⟩ := h.exists_eq_withHidden; rfl
  rw [Machine.execRxStatus, Machine.execRxStatus, hsr]
  exact h.respond .ok s.rxsr

theorem LooksAlike.execRxReset {s t : State} (h : LooksAlike s t) : AnswerAlike (execRxReset s) (execRxReset t) := by
  obtain ⟨m, crc, exp, rfl⟩ := h.exists_eq_withHidden
  exact LooksAlike.of_awaitingStart (s := State.respond _ _ _) rfl rfl m crcInit 0

theorem andThen_next_ne_fault {α β : Type} {o : Result α} {f : α → β} {r : Fault} (h : o ≠ .fault r) :
    andThen o (fun a => .next (f a)) ≠ .fault r := by
  cases o with
  | next a => exact fun hn => nomatch hn
  | fault r' => exact fun hf => h (by simpa using hf)
  | refused r' => exact fun hn => nomatch hn

theorem txPayload_ne_fault (n k : Nat) (w : TxWork) (s : State) (r : Fault) : txPayload n k w s ≠ .fault r := by
  induction n generalizing k w s with
  | zero => exact fun h => nomatch h
  | succ n ih =>
    cases hp : s.payload with
    | nil => simp [txPayload, State.payloadRead_nil hp]
    | cons p rest => simpa [txPayload, State.payloadRead_cons hp] using ih _ _ _

theorem execTxSend_ne_fault (comp msg len : Byte) (s : State) (r : Fault) : execTxSend comp msg len s ≠ .fault r := by
  unfold execTxSend
  split
  · exact fun h => nomatch h
  · split
    · exact fun h => nomatch h
    · exact andThen_next_ne_fault (txPayload_ne_fault _ _ _ _ r)

/-- `TX_SEND` does not see the RX unit, and leaves it alone (R155). -/
theorem LooksAlike.execTxSend {s t : State} (h : LooksAlike s t) (comp msg len : Byte) :
    AnswerAlike (execTxSend comp msg len s) (execTxSend comp msg len t) := by
  have ht : t = s.withRxOf t := by obtain ⟨m, crc, exp, rfl⟩ := h.exists_eq_withHidden; rfl
  rw [ht, (TxBlind.withRxOf t).execTxSend]
  cases he : Machine.execTxSend comp msg len s with
  | fault r => exact execTxSend_ne_fault comp msg len s r he
  | refused r => exact rfl
  | next u =>
    obtain ⟨hrx, -⟩ := exec_keeps_rx (i := .txSend comp msg len) he (fun b hb => nomatch hb) (fun hr => nomatch hr)
    rw [← hrx]
    exact h.withRxOf u


theorem LooksAlike.exec {s t : State} (h : LooksAlike s t) (hinv : BlockInv s) (hinv' : BlockInv t) (i : Instr) :
    AnswerAlike (exec i s) (exec i t) := by
  cases i with
  | crcInit | crcSeed _ | crcUpdate _ | crcRead =>
    obtain ⟨m, crc, exp, rfl⟩ := h.exists_eq_withHidden
    exact ⟨h.fb, h.rxCrc, h.rxExp, rfl⟩
  | rxReset => exact h.execRxReset
  | rxFeed b => exact h.execRxFeed hinv hinv' b
  | rxRead i => exact h.execRxRead i
  | rxStatus => exact h.execRxStatus
  | txSend comp msg len => exact h.execTxSend comp msg len

theorem LooksAlike.step {s t : State} (h : LooksAlike s t) (hinv : BlockInv s) (hinv' : BlockInv t) :
    AnswerAlike (step s) (step t) := by
  cases hc : s.commands with
  | nil =>
    rw [Machine.step, Machine.step, State.fetchCommand_nil hc, State.fetchCommand_nil (h.commands_eq.trans hc)]
    exact h
  | cons w rest =>
    rw [Machine.step, Machine.step, State.fetchCommand_cons hc, State.fetchCommand_cons (h.commands_eq.trans hc)]
    dsimp only
    cases decode w with
    | error e => exact (h.setCommands rest).respond .illegalCommand 0
    | ok i => exact (h.setCommands rest).exec (hinv.of_withRxOf rfl rfl) (hinv'.of_withRxOf rfl rfl) i

/-- Settles O58: each command finds alike what it reads, and leaves alike what it writes. -/
theorem hiddenStateIsUnobservable : Obligations.HiddenStateIsUnobservable :=
  fun _ _ hinv hinv' h => h.step hinv hinv'

end Sys2Proof.Machine
end

section
/-! Where a feed faults, what commands do to `FRAME_VALID` and to the form of the buffer, and what `RX_STATUS` shows: O32,
O35, O54 and O39. -/

namespace Sys2Proof.Machine

/-! Faults of `RX_FEED`. -/

theorem illegalLength_of_ne_zero {b : Byte} {s : State} (h : s.rxCnt ≠ 0) : illegalLength b s = false :=
  Bool.eq_false_iff.mpr fun hi => h (illegalLength_iff.mp hi).1

/-- Settles O32: the faults by the equations of the three states, and none under the invariant by `BlockInv.execRxFeed`. -/
theorem rxFeedFaultsOnIllFormedStates : Obligations.RxFeedFaultsOnIllFormedStates := by
  refine ⟨fun b s hs => ?_, fun b s hs hcnt => ?_, fun b s hs hcnt => ?_, fun b s hs hlast hlen => ?_,
    fun b s hs hcnt hlen => ?_, fun b s r hf hinv => ?_⟩
  · change execRxFeed b s = _
    simp [execRxFeed, hs, awaitingStart, awaitingHeader, awaitingBody]
  · have hb : illegalLength b (s.setFrameValid false) = false :=
      illegalLength_of_ne_zero (show s.rxCnt ≠ 0 by bv_omega)
    have hcell : ¬ headerIndex (s.setFrameValid false) < fbSize := by
      change ¬ 1 + s.rxCnt.toNat < 256; omega
    change execRxFeed b s = _
    rw [execRxFeed_awaitingHeader hs, rxFeedHeader_eq, if_neg (by simp [hb]), if_neg hcell]
  · have hcell : ¬ bodyIndex (s.setFrameValid false) < fbSize := by
      change ¬ 4 + s.rxCnt.toNat < 256; omega
    change execRxFeed b s = _
    rw [execRxFeed_awaitingBody hs, rxFeedBody_eq, if_neg hcell]
  · have hc : completesFrame (s.setFrameValid false) = true := completesFrame_iff.mpr hlast
    have hcell : ¬ crcHiIndex ((s.setFrameValid false).fb.read lengthIndex).toNat < fbSize := by
      change ¬ 5 + s.frameLen < 256; omega
    change execRxFeed b s = _
    rw [execRxFeed_awaitingBody hs, rxFeedBody_eq, if_pos hc, rxComplete_eq, if_neg hcell, ite_self]
  · have hb : illegalLength b (s.setFrameValid false) = false :=
      illegalLength_of_ne_zero (show s.rxCnt ≠ 0 by rw [hcnt]; decide)
    have hcell : headerIndex (s.setFrameValid false) = 3 := by
      change 1 + s.rxCnt.toNat = 3; rw [hcnt]; rfl
    have hfl : (headerTaken b (s.setFrameValid false)).frameLen = s.frameLen := by
      change ((s.fb.write (headerIndex (s.setFrameValid false)) b).read lengthIndex).toNat = _
      rw [hcell, Memory.read_write, if_neg (by decide)]
      rfl
    change execRxFeed b s = _
    rw [execRxFeed_awaitingHeader hs, rxFeedHeader_eq, if_neg (by simp [hb]), if_pos (by rw [hcell]; decide),
      rxHeaderWritten_eq,
      if_pos (show (headerTaken b (s.setFrameValid false)).rxCnt = 2 from hcnt), hfl, if_neg (by omega)]
  · obtain ⟨t, ht, -⟩ := hinv.execRxFeed b
    cases ht.symm.trans hf

/-! `FRAME_VALID` and the buffer after a command. -/

/-- A feed leaves the buffer as it is, or writes its byte to one cell. -/
theorem FeedAnswer.fb_eq {b : Byte} {s t : State} (h : FeedAnswer b s t) :
    t.fb = s.fb ∨ ∃ a, a < fbSize ∧ t.fb = s.fb.write a b := by
  cases h with
  | noise | illegalLength => exact .inl rfl
  | marker => exact .inr ⟨markerIndex, by decide, rfl⟩
  | headerByte _ _ hlt | lastHeaderByte _ hlt => exact .inr ⟨_, hlt, rfl⟩
  | bodyByte _ hlt | accepted _ hlt | rejected _ hlt => exact .inr ⟨_, hlt, rfl⟩

theorem responseWord_ne_of_status_ne {st st' : Status} (h : st ≠ st') (d d' : Half) :
    responseWord st d ≠ responseWord st' d' := fun he =>
  h (Status.code_inj.mp (by simpa using congrArg responseStatus he))

/-- No frame is readable after an answer other than `FRAME_READY`, whatever length that would announce. -/
theorem frameValid_iff_of_status_ne {s t : State} {st : Status} {d : Half}
    (hr : t.responses = s.responses ++ [responseWord st d]) (hst : st ≠ .frameReady) (hv : t.frameValid = false) (n : Half) :
    t.frameValid = true ↔ t.responses = s.responses ++ [responseWord .frameReady n] := by
  refine iff_of_false (by simp [hv]) fun he => ?_
  have hw := List.append_cancel_left (hr.symm.trans he)
  exact responseWord_ne_of_status_ne hst d n (List.singleton_inj.mp hw)

/-- After a feed `FRAME_VALID` is set exactly when the feed answered `FRAME_READY` (R25). -/
theorem FeedAnswer.frameValid_iff {b : Byte} {s t : State} (hv : s.frameValid = false) (h : FeedAnswer b s t) :
    t.frameValid = true ↔ t.responses = s.responses ++ [responseWord .frameReady (BitVec.ofNat 16 s.frameLen)] := by
  cases h with
  | accepted =>
    have hn : zext16 (s.fb.read lengthIndex) = BitVec.ofNat 16 s.frameLen := (BitVec.ofNat_toNat 16 _).symm
    exact iff_of_true rfl (by rw [← hn]; rfl)
  | noise | marker | illegalLength | headerByte | lastHeaderByte | bodyByte =>
    refine frameValid_iff_of_status_ne (st := .incomplete) (d := 0) ?_ nofun ?_ _
    · rfl
    · exact hv
  | rejected =>
    refine frameValid_iff_of_status_ne (st := .checksumMismatch) (d := 0) ?_ nofun ?_ _
    · rfl
    · exact hv

/-- Settles O35, by what a command can do to the RX unit. -/
theorem frameValidRule : Obligations.FrameValidRule := by
  intro i s t h
  obtain ⟨b, rfl, hfeed⟩ | ⟨rfl, hreset⟩ | ⟨hfeed, hreset, hrx, -⟩ := exec_eq_next h
  · have hiff := hfeed.frameValid_iff rfl
    exact hiff
  · cases hreset
    rfl
  · have hv : t.frameValid = s.frameValid := (congrArg State.frameValid hrx).symm
    cases i with
    | rxFeed b => exact absurd rfl (hfeed b)
    | rxReset => exact absurd rfl hreset
    | crcInit | crcSeed _ | crcUpdate _ | crcRead | rxRead _ | rxStatus | txSend _ _ _ => exact hv

/-- Every command keeps the canonical form of the buffer. -/
theorem exec_keeps_fb_wf {i : Instr} {s t : State} (hwf : s.fb.wf = true) (h : exec i s = .next t) : t.fb.wf = true := by
  obtain ⟨b, -, hfeed⟩ | ⟨-, hreset⟩ | ⟨-, -, hrx, -⟩ := exec_eq_next h
  · obtain hfb | ⟨a, ha, hfb⟩ := hfeed.fb_eq
    · rw [hfb]; exact hwf
    · rw [hfb]; exact Memory.write_wf b ha hwf
  · cases hreset
    exact hwf
  · have hfb : t.fb = s.fb := (congrArg State.fb hrx).symm
    rw [hfb]
    exact hwf

/-- Settles O54, by what a step can do (the canonical form is the model's, log 2). -/
theorem stepKeepsTheBufferCanonical : Obligations.StepKeepsTheBufferCanonical := by
  intro s t hwf hstep
  obtain ⟨-, rfl⟩ | ⟨w, rest, -, ⟨e, -, rfl⟩ | ⟨i, -, he⟩⟩ := step_eq_next hstep
  · exact hwf
  · exact hwf
  · exact exec_keeps_fb_wf (s := s.setCommands rest) hwf he

/-! The fields of `RXSR` (R29). -/

theorem rxsr_rxState (s : State) : s.rxsr.extractLsb' 0 2 = s.rxState := by
  rw [State.rxsr, BitVec.extractLsb'_append_eq_of_add_le (by omega), BitVec.extractLsb'_eq_self]

theorem rxsr_frameValid (s : State) : s.rxsr.getLsbD 2 = s.frameValid := by
  rw [State.rxsr, BitVec.getLsbD_append, if_neg (by omega), BitVec.getLsbD_append, if_pos (by omega)]
  simp

theorem rxsr_zeros (s : State) : s.rxsr.extractLsb' 3 5 = 0 := by
  rw [State.rxsr, BitVec.extractLsb'_append_eq_of_le (by omega), BitVec.extractLsb'_append_eq_of_le (by omega),
    BitVec.extractLsb'_append_eq_of_add_le (by omega)]
  rfl

theorem rxsr_rxCnt (s : State) : s.rxsr.extractLsb' 8 8 = s.rxCnt := by
  rw [State.rxsr, BitVec.extractLsb'_append_eq_of_le (by omega), BitVec.extractLsb'_append_eq_of_le (by omega),
    BitVec.extractLsb'_append_eq_of_le (by omega), BitVec.extractLsb'_eq_self]

/-- Settles O39, field by field of `RXSR`. -/
theorem rxStatusResult : Obligations.RxStatusResult := by
  refine ⟨fun s => ⟨s.rxsr, rfl, rxsr_rxState s, rxsr_frameValid s, rxsr_zeros s, rxsr_rxCnt s⟩, rfl,
    fun s hs hcnt hv => ?_, fun s hs hcnt hv => ?_⟩
  · have hsr : s.rxsr = 0x0004 := by rw [State.rxsr, hs, hcnt, hv]; rfl
    change execRxStatus s = _
    rw [execRxStatus, hsr]
    rfl
  · have hsr : s.rxsr = 0x0201 := by rw [State.rxsr, hs, hcnt, hv]; rfl
    change execRxStatus s = _
    rw [execRxStatus, hsr]
    rfl

end Sys2Proof.Machine
end

section
/-! The block takes its commands one at a time, in order (R44, R47); reads repeat (R46), and a `TX_SEND` needs its payload
(R55): O9, O51 and O48. -/

namespace Sys2Proof.Machine

theorem step_of_commands_nil {s : State} (hc : s.commands = []) : step s = .next s := by
  rw [step, State.fetchCommand_nil hc]

theorem step_of_decode {s : State} {w : Word} {rest : List Word} {i : Instr} (hc : s.commands = w :: rest)
    (hd : decode w = .ok i) : step s = exec i (s.setCommands rest) := by
  rw [step, State.fetchCommand_cons hc]
  dsimp only
  rw [hd]

/-- Settles O9 (that a step with no command issued changes nothing is the model's choice, log 4). -/
theorem stepExecutesTheNextCommand : Obligations.StepExecutesTheNextCommand :=
  ⟨fun _ _ _ _ hc hd => step_of_decode hc hd, fun _ hc => step_of_commands_nil hc⟩

/-- The responses returned so far become `rs`. -/
def State.setResponses (s : State) (rs : List Word) : State := { s with responses := rs }

theorem State.respond_respond (s : State) (st st' : Status) (d d' : Half) :
    (s.respond st d).respond st' d' = s.setResponses (s.responses ++ [responseWord st d, responseWord st' d']) :=
  congrArg s.setResponses (List.append_assoc s.responses [responseWord st d] [responseWord st' d'])

/-- A command that reads only answers, and what it answers does not depend on the responses before it (R46). -/
theorem exec_read_eq {i : Instr} (hi : i = .crcRead ∨ (∃ idx, i = .rxRead idx) ∨ i = .rxStatus) (s : State) :
    ∃ st d, ∀ rs, exec i (s.setResponses rs) = .next ((s.setResponses rs).respond st d) := by
  obtain rfl | ⟨idx, rfl⟩ | rfl := hi
  · exact ⟨.ok, s.crcAcc, fun _ => rfl⟩
  · change ∃ st d, ∀ rs, execRxRead idx (s.setResponses rs) = _
    by_cases hv : s.frameValid = true
    · by_cases hlen : frameSize s.frameLen ≤ idx.toNat
      · exact ⟨.outOfFrame, 0, fun rs => (execRxRead_eq idx _).trans (congrArg _ ((if_pos hv).trans (if_pos hlen)))⟩
      · exact ⟨.ok, zext16 (s.fb.read idx.toNat), fun rs =>
          (execRxRead_eq idx _).trans (congrArg _ ((if_pos hv).trans (if_neg hlen)))⟩
    · exact ⟨.noFrame, 0, fun rs => (execRxRead_eq idx _).trans (congrArg _ (if_neg hv))⟩
  · exact ⟨.ok, s.rxsr, fun _ => rfl⟩

/-- Settles O51: the second read differs from the first in the responses before it only. -/
theorem readsAreIdempotent : Obligations.ReadsAreIdempotent := by
  intro i s hi
  obtain ⟨st, d, hread⟩ := exec_read_eq hi s
  have hfirst : exec i s = .next (s.respond st d) := hread s.responses
  have hsecond : exec i (s.respond st d) = .next ((s.respond st d).respond st d) := hread _
  refine ⟨responseWord st d, hfirst, ?_⟩
  rw [execAll, hfirst, andThen_next, execAll, hsecond, andThen_next, execAll, State.respond_respond]
  rfl

/-- The payload loop stops at the first byte the host has not supplied (R55, log 7). -/
theorem txPayload_of_payload_short {n : Nat} (k : Nat) (w : TxWork) {s : State} (h : s.payload.length < n) :
    txPayload n k w s = .refused .payloadNotSupplied := by
  induction n generalizing k w s with
  | zero => exact absurd h (Nat.not_lt_zero _)
  | succ n ih =>
    rw [txPayload]
    cases hp : s.payload with
    | nil => rw [State.payloadRead_nil hp, andThen_refused]
    | cons p rest =>
      rw [State.payloadRead_cons hp, andThen_next]
      rw [hp] at h
      exact ih _ _ (Nat.lt_of_succ_lt_succ h)

/-- A `TX_SEND` of a legal length whose buffer is granted builds the frame (R150, R153). -/
theorem execTxSend_of_granted {comp msg len : Byte} {answers : List AllocAnswer} {s : State}
    (hlen : len.toNat ≤ maxPayload) (hbound : s.transportBound = true) (hans : s.allocAnswers = .granted :: answers) :
    execTxSend comp msg len s = txSerialize comp msg len (s.afterAlloc (frameSize len.toNat)) := by
  have hgranted : s.nextAllocAnswer = .granted := by rw [State.nextAllocAnswer, if_pos hbound, hans]; rfl
  rw [execTxSend, if_neg (Nat.not_lt.mpr hlen), hgranted]

/-- Settles O48: the grant starts the payload loop, which runs out of bytes (the refusal is the model's, log 7). -/
theorem txSendWithoutPayloadIsRefused : Obligations.TxSendWithoutPayloadIsRefused := by
  intro comp msg len answers s hlen hshort hbound hans
  change execTxSend comp msg len s = _
  rw [execTxSend_of_granted hlen hbound hans, txSerialize, txPayload_of_payload_short, andThen_refused]
  exact hshort

end Sys2Proof.Machine
end

section
/-! The decoder undoes the encoder, by the opcode: no two rows of R73 share one, and a selected row has the word's. -/

namespace Sys2Proof

/-! The fields of a word in each format (R70, R71). -/

@[simp] theorem opcodeOf_formatN (op : BitVec 4) : opcodeOf (formatN op) = op := by
  rw [opcodeOf, formatN, BitVec.extractLsb'_append_eq_of_le (by omega), BitVec.extractLsb'_eq_self]

@[simp] theorem opcodeOf_formatB (op : BitVec 4) (b : Byte) : opcodeOf (formatB op b) = op := by
  rw [opcodeOf, formatB, BitVec.extractLsb'_append_eq_of_le (by omega), BitVec.extractLsb'_append_eq_of_le (by omega),
    BitVec.extractLsb'_eq_self]

@[simp] theorem opcodeOf_formatH (op : BitVec 4) (h : Half) : opcodeOf (formatH op h) = op := by
  rw [opcodeOf, formatH, BitVec.extractLsb'_append_eq_of_le (by omega), BitVec.extractLsb'_append_eq_of_le (by omega),
    BitVec.extractLsb'_eq_self]

@[simp] theorem opcodeOf_formatT (op : BitVec 4) (comp msg len : Byte) : opcodeOf (formatT op comp msg len) = op := by
  rw [opcodeOf, formatT, BitVec.extractLsb'_append_eq_of_le (by omega), BitVec.extractLsb'_append_eq_of_le (by omega),
    BitVec.extractLsb'_append_eq_of_le (by omega), BitVec.extractLsb'_append_eq_of_le (by omega),
    BitVec.extractLsb'_eq_self]

@[simp] theorem fieldB_formatB (op : BitVec 4) (b : Byte) : fieldB (formatB op b) = b := by
  rw [fieldB, formatB, BitVec.extractLsb'_append_eq_of_add_le (by omega), BitVec.extractLsb'_eq_self]

@[simp] theorem fieldH_formatH (op : BitVec 4) (h : Half) : fieldH (formatH op h) = h := by
  rw [fieldH, formatH, BitVec.extractLsb'_append_eq_of_add_le (by omega), BitVec.extractLsb'_eq_self]

@[simp] theorem fieldB_formatT (op : BitVec 4) (comp msg len : Byte) : fieldB (formatT op comp msg len) = len := by
  rw [fieldB, formatT, BitVec.extractLsb'_append_eq_of_add_le (by omega), BitVec.extractLsb'_eq_self]

@[simp] theorem fieldMsg_formatT (op : BitVec 4) (comp msg len : Byte) : fieldMsg (formatT op comp msg len) = msg := by
  rw [fieldMsg, formatT, BitVec.extractLsb'_append_eq_of_le (by omega), BitVec.extractLsb'_append_eq_of_add_le (by omega),
    BitVec.extractLsb'_eq_self]

@[simp] theorem fieldComp_formatT (op : BitVec 4) (comp msg len : Byte) : fieldComp (formatT op comp msg len) = comp := by
  rw [fieldComp, formatT, BitVec.extractLsb'_append_eq_of_le (by omega), BitVec.extractLsb'_append_eq_of_le (by omega),
    BitVec.extractLsb'_append_eq_of_add_le (by omega), BitVec.extractLsb'_eq_self]

/-! The rows of R73. -/

/-- The opcode a row stands for. -/
def Row.opcode (r : Row) : BitVec 4 := opcodeOf r.mtch

/-- Every row's mask holds all the opcode bits, so a word has the opcode of each row it selects. -/
theorem Row.opcode_eq_of_selects {r : Row} {w : Word} (hr : r ∈ decodeTable) (h : r.selects w = true) :
    r.opcode = opcodeOf w := by
  have hmask : ∀ r ∈ decodeTable, opcodeOf r.mask = BitVec.allOnes 4 := by decide
  have hmtch : w &&& r.mask = r.mtch := eq_of_beq h
  rw [Row.opcode, ← hmtch, opcodeOf, BitVec.extractLsb'_and]
  exact (congrArg (opcodeOf w &&& ·) (hmask r hr)).trans BitVec.and_allOnes

theorem Row.eq_of_opcode_eq {r r' : Row} (hr : r ∈ decodeTable) (hr' : r' ∈ decodeTable) (h : r.opcode = r'.opcode) :
    r = r' :=
  List.inj_on_of_nodup_map (by decide) hr hr' h

/-- A word that some row selects decodes by the row of its opcode. -/
theorem decode_eq_of_opcode {r : Row} {w : Word} (hr : r ∈ decodeTable) (hop : r.opcode = opcodeOf w)
    (hsel : ∃ r ∈ decodeTable, r.selects w = true) : decode w = .ok (r.fields w) := by
  obtain ⟨r', hfind⟩ := Option.isSome_iff_exists.mp (List.find?_isSome.mpr hsel)
  have hr' : r' ∈ decodeTable := List.mem_of_find?_eq_some hfind
  have hsel' : r'.selects w = true := List.find?_some (p := fun r : Row => r.selects w) hfind
  have heq : r' = r := Row.eq_of_opcode_eq hr' hr ((Row.opcode_eq_of_selects hr' hsel').trans hop.symm)
  rw [decode, hfind, heq]

/-- The row of R73 a command belongs to. -/
def rowOf : Instr → Row
  | .crcInit => decodeTable[0]
  | .crcSeed _ => decodeTable[1]
  | .crcUpdate _ => decodeTable[2]
  | .crcRead => decodeTable[3]
  | .rxReset => decodeTable[4]
  | .rxFeed _ => decodeTable[5]
  | .rxRead _ => decodeTable[6]
  | .rxStatus => decodeTable[7]
  | .txSend _ _ _ => decodeTable[8]

theorem rowOf_mem (i : Instr) : rowOf i ∈ decodeTable := by
  cases i <;> exact List.getElem_mem _

theorem opcode_rowOf (i : Instr) : (rowOf i).opcode = opcodeOf (encode i) := by
  cases i <;> simp only [rowOf, encode, opcodeOf_formatN, opcodeOf_formatB, opcodeOf_formatH, opcodeOf_formatT] <;> rfl

theorem fields_rowOf (i : Instr) : (rowOf i).fields (encode i) = i := by
  cases i with
  | crcInit | crcRead | rxReset | rxStatus => rfl
  | crcSeed h => exact congrArg Instr.crcSeed (fieldH_formatH 0x2 h)
  | crcUpdate b => exact congrArg Instr.crcUpdate (fieldB_formatB 0x3 b)
  | rxFeed b => exact congrArg Instr.rxFeed (fieldB_formatB 0x9 b)
  | rxRead i => exact congrArg Instr.rxRead (fieldB_formatB 0xA i)
  | txSend comp msg len =>
    change Instr.txSend (fieldComp (formatT 0xC comp msg len)) (fieldMsg (formatT 0xC comp msg len))
      (fieldB (formatT 0xC comp msg len)) = _
    rw [fieldComp_formatT, fieldMsg_formatT, fieldB_formatT]

/-- Some row selects the word of a command. -/
theorem exists_selects_encode (i : Instr) : ∃ r ∈ decodeTable, r.selects (encode i) = true := by
  cases i with
  | crcInit => exact Laws.FixedBits.crcInit
  | crcSeed h => exact Laws.FixedBits.crcSeed h
  | crcUpdate b => exact Laws.FixedBits.crcUpdate b
  | crcRead => exact Laws.FixedBits.crcRead
  | rxReset => exact Laws.FixedBits.rxReset
  | rxFeed b => exact Laws.FixedBits.rxFeed b
  | rxRead i => exact Laws.FixedBits.rxRead i
  | rxStatus => exact Laws.FixedBits.rxStatus
  | txSend comp msg len => exact Laws.FixedBits.txSend comp msg len

/-- A command's word decodes to that command (R74, R75). -/
@[simp] theorem decode_encode (i : Instr) : decode (encode i) = .ok i := by
  rw [decode_eq_of_opcode (rowOf_mem i) (opcode_rowOf i) (exists_selects_encode i), fields_rowOf]

end Sys2Proof
end

section
/-! What a command does not see: updates of the state that commute with it. The RX and CRC units get here what `TxBlind` is
for the TX unit (R48). -/

namespace Sys2Proof.Machine

/-- An update of the state that keeps the parameters and the registers and buffer of the RX unit, and that each change an
RX command makes can follow as well as precede. -/
structure RxBlind (f : State → State) : Prop where
  config (s : State) : (f s).config = s.config
  withRxOf (s r : State) : f (s.withRxOf r) = (f s).withRxOf r
  respond (s : State) (st : Status) (d : Half) : f (s.respond st d) = (f s).respond st d

/-- An update of the state that keeps `CRC_ACC`, and that each change a CRC command makes can follow as well as precede. -/
structure CrcBlind (f : State → State) : Prop where
  crcAcc (s : State) : (f s).crcAcc = s.crcAcc
  setCrcAcc (s : State) (v : Half) : f (s.setCrcAcc v) = (f s).setCrcAcc v
  respond (s : State) (st : Status) (d : Half) : f (s.respond st d) = (f s).respond st d

/-! The RX unit. -/

/-- The answer to `RX_RESET` (R120). -/
def resetRx (s : State) : State :=
  (((((s.setRxState awaitingStart).setRxCnt 0).setRxExp 0).setRxCrc crcInit).setFrameValid false).respond .ok 0

section RxBlind
variable {f : State → State} (hf : RxBlind f)
include hf

/-- What such an update gives already has the RX unit of the state it started from. -/
theorem RxBlind.withRxOf_self (s : State) : (f s).withRxOf s = f s := (hf.withRxOf s s).symm

/-- What depends on the RX unit alone is the same after it. -/
theorem RxBlind.reads {α : Type} {g : State → α} (hg : ∀ u s : State, g (u.withRxOf s) = g s) (s : State) :
    g (f s) = g s := by
  rw [← hf.withRxOf_self, hg]

theorem RxBlind.fb (s : State) : (f s).fb = s.fb := hf.reads (g := State.fb) (fun _ _ => rfl) s
theorem RxBlind.rxState (s : State) : (f s).rxState = s.rxState := hf.reads (g := State.rxState) (fun _ _ => rfl) s
theorem RxBlind.rxCnt (s : State) : (f s).rxCnt = s.rxCnt := hf.reads (g := State.rxCnt) (fun _ _ => rfl) s
theorem RxBlind.frameValid (s : State) : (f s).frameValid = s.frameValid :=
  hf.reads (g := State.frameValid) (fun _ _ => rfl) s
theorem RxBlind.frameLen (s : State) : (f s).frameLen = s.frameLen := hf.reads (g := State.frameLen) (fun _ _ => rfl) s
theorem RxBlind.rxsr (s : State) : (f s).rxsr = s.rxsr := hf.reads (g := State.rxsr) (fun _ _ => rfl) s
theorem RxBlind.headerIndex (s : State) : headerIndex (f s) = headerIndex s := hf.reads (fun _ _ => rfl) s
theorem RxBlind.bodyIndex (s : State) : bodyIndex (f s) = bodyIndex s := hf.reads (fun _ _ => rfl) s
theorem RxBlind.illegalLength (b : Byte) (s : State) : illegalLength b (f s) = illegalLength b s :=
  hf.reads (fun _ _ => rfl) s
theorem RxBlind.completesFrame (s : State) : completesFrame (f s) = completesFrame s := hf.reads (fun _ _ => rfl) s
theorem RxBlind.checksumVerifies (n : Byte) (s : State) : checksumVerifies n (f s) = checksumVerifies n s :=
  hf.reads (fun _ _ => rfl) s

/-- It commutes with a write `g` to the RX unit that depends on the RX unit alone. -/
theorem RxBlind.write {g : State → State} (hg : ∀ u s : State, g (u.withRxOf s) = u.withRxOf (g s)) (s : State) :
    f (g s) = g (f s) := by
  have hs : g s = s.withRxOf (g s) := hg s s
  rw [hs, hf.withRxOf, ← hg, hf.withRxOf_self]

/-- It commutes with such a write followed by a response. -/
theorem RxBlind.answer {g : State → State} {st : Status} {d : Half}
    (hg : ∀ u s : State, g (u.withRxOf s) = (u.withRxOf (g s)).respond st d) (s : State) : f (g s) = g (f s) := by
  have hs : g s = (s.withRxOf (g s)).respond st d := hg s s
  rw [hs, hf.respond, hf.withRxOf, ← hg, hf.withRxOf_self]

theorem RxBlind.clearValid (s : State) : f (s.setFrameValid false) = (f s).setFrameValid false :=
  hf.write (g := (·.setFrameValid false)) (fun _ _ => rfl) s
theorem RxBlind.headerTaken (b : Byte) (s : State) : f (headerTaken b s) = headerTaken b (f s) :=
  hf.write (fun _ _ => rfl) s
theorem RxBlind.bodyTaken (b : Byte) (s : State) : f (bodyTaken b s) = bodyTaken b (f s) := hf.write (fun _ _ => rfl) s
theorem RxBlind.countByte (s : State) : f (countByte s) = countByte (f s) := hf.answer (fun _ _ => rfl) s
theorem RxBlind.dropFrame (s : State) : f (dropFrame s) = dropFrame (f s) := hf.answer (fun _ _ => rfl) s
theorem RxBlind.beginFrame (b : Byte) (s : State) : f (beginFrame b s) = beginFrame b (f s) :=
  hf.answer (fun _ _ => rfl) s
theorem RxBlind.beginBody (s : State) : f (beginBody s) = beginBody (f s) := hf.answer (fun _ _ => rfl) s
theorem RxBlind.resetRx (s : State) : f (resetRx s) = resetRx (f s) := hf.answer (fun _ _ => rfl) s
theorem RxBlind.acceptFrame (n : Byte) (s : State) : f (acceptFrame n s) = acceptFrame n (f s) :=
  hf.answer (fun _ _ => rfl) s
theorem RxBlind.rejectFrame (s : State) : f (rejectFrame s) = rejectFrame (f s) := hf.answer (fun _ _ => rfl) s
theorem RxBlind.endFrame (n : Byte) (s : State) : f (endFrame n s) = endFrame n (f s) := by
  rw [Machine.endFrame, Machine.endFrame, apply_ite f, hf.acceptFrame, hf.rejectFrame, hf.checksumVerifies]

theorem RxBlind.rxFeedStart (b : Byte) (s : State) :
    rxFeedStart b (f s) = andThen (rxFeedStart b s) fun t => .next (f t) := by
  rw [rxFeedStart_eq_beginFrame, rxFeedStart_eq_beginFrame, andThen_next, apply_ite f, hf.beginFrame, hf.respond, hf.config]

theorem RxBlind.rxHeaderWritten (s : State) :
    rxHeaderWritten (f s) = andThen (rxHeaderWritten s) fun t => .next (f t) := by
  simp only [rxHeaderWritten_eq, andThen_ite, andThen_next, andThen_fault, hf.rxCnt, hf.frameLen, hf.beginBody, hf.countByte]

theorem RxBlind.rxFeedHeader (b : Byte) (s : State) :
    rxFeedHeader b (f s) = andThen (rxFeedHeader b s) fun t => .next (f t) := by
  simp only [Machine.rxFeedHeader_eq, andThen_ite, andThen_next, andThen_fault, hf.illegalLength, hf.headerIndex,
    hf.dropFrame, ← hf.headerTaken, hf.rxHeaderWritten]

theorem RxBlind.rxComplete (n : Byte) (s : State) :
    rxComplete n (f s) = andThen (rxComplete n s) fun t => .next (f t) := by
  simp only [rxComplete_eq, andThen_ite, andThen_next, andThen_fault, hf.endFrame]

theorem RxBlind.rxFeedBody (b : Byte) (s : State) :
    rxFeedBody b (f s) = andThen (rxFeedBody b s) fun t => .next (f t) := by
  simp only [Machine.rxFeedBody_eq, andThen_ite, andThen_next, andThen_fault, hf.bodyIndex, hf.completesFrame, hf.fb,
    ← hf.bodyTaken, hf.rxComplete, hf.countByte]

theorem RxBlind.execRxFeed (b : Byte) (s : State) :
    execRxFeed b (f s) = andThen (execRxFeed b s) fun t => .next (f t) := by
  simp only [Machine.execRxFeed, andThen_ite, andThen_fault, hf.rxState, ← hf.clearValid, hf.rxFeedStart, hf.rxFeedHeader,
    hf.rxFeedBody]

theorem RxBlind.execRxRead (i : Byte) (s : State) :
    execRxRead i (f s) = andThen (execRxRead i s) fun t => .next (f t) := by
  simp only [execRxRead_eq, andThen_next, apply_ite f, hf.respond, hf.frameValid, hf.frameLen, hf.fb]

theorem RxBlind.execRxReset (s : State) : execRxReset (f s) = andThen (execRxReset s) fun t => .next (f t) :=
  congrArg Host.Outcome.next (hf.resetRx s).symm

end RxBlind

/-! All units. -/

theorem CrcBlind.loadCrcAcc {f : State → State} (hf : CrcBlind f) (s : State) (v : Half) :
    (f s).loadCrcAcc v = f (s.loadCrcAcc v) := by
  rw [State.loadCrcAcc, State.loadCrcAcc, hf.respond, hf.setCrcAcc]

/-- An update of the state that the commands of unit `u` do not see. -/
def Blind : BlockUnit → (State → State) → Prop
  | .crc => CrcBlind
  | .rx => RxBlind
  | .tx => TxBlind

/-- A command commutes with every update it does not see, stops included. -/
theorem Blind.exec {f : State → State} {i : Instr} (hf : Blind (unitOf i) f) (s : State) :
    exec i (f s) = andThen (exec i s) fun t => .next (f t) := by
  cases i with
  | crcInit => exact congrArg Host.Outcome.next (CrcBlind.loadCrcAcc hf s crcInit)
  | crcSeed h => exact congrArg Host.Outcome.next (CrcBlind.loadCrcAcc hf s h)
  | crcUpdate b =>
    have hacc : (f s).crcAcc = s.crcAcc := CrcBlind.crcAcc hf s
    change execCrcUpdate b (f s) = .next (f (s.loadCrcAcc (crcStep s.crcAcc b)))
    rw [execCrcUpdate, hacc, CrcBlind.loadCrcAcc hf]
  | crcRead =>
    have hacc : (f s).crcAcc = s.crcAcc := CrcBlind.crcAcc hf s
    change execCrcRead (f s) = .next (f (s.respond .ok s.crcAcc))
    rw [execCrcRead, hacc, CrcBlind.respond hf]
  | rxReset => exact RxBlind.execRxReset hf s
  | rxFeed b => exact RxBlind.execRxFeed hf b s
  | rxRead idx => exact RxBlind.execRxRead hf idx s
  | rxStatus =>
    have hsr : (f s).rxsr = s.rxsr := RxBlind.rxsr hf s
    change execRxStatus (f s) = .next (f (s.respond .ok s.rxsr))
    rw [execRxStatus, hsr, RxBlind.respond hf]
  | txSend comp msg len => exact TxBlind.execTxSend hf comp msg len s

/-! Updates that no command sees: of the words to come, and of the responses before. -/

/-- The responses `rs` had been returned before. -/
def State.respondedBefore (s : State) (rs : List Word) : State := s.setResponses (rs ++ s.responses)

theorem Blind.setCommands (u : BlockUnit) (ws : List Word) : Blind u (·.setCommands ws) := by
  cases u <;> constructor <;> intros <;> rfl

theorem State.respondedBefore_respond (s : State) (rs : List Word) (st : Status) (d : Half) :
    (s.respond st d).respondedBefore rs = (s.respondedBefore rs).respond st d :=
  congrArg s.setResponses (List.append_assoc rs s.responses [responseWord st d]).symm

theorem Blind.respondedBefore (u : BlockUnit) (rs : List Word) : Blind u (·.respondedBefore rs) := by
  have hrespond := (State.respondedBefore_respond · rs)
  cases u with
  | crc => exact ⟨fun _ => rfl, fun _ _ => rfl, hrespond⟩
  | rx => exact ⟨fun _ => rfl, fun _ _ => rfl, hrespond⟩
  | tx => exact ⟨fun _ => rfl, fun _ => rfl, fun _ => rfl, hrespond, fun _ _ => rfl, fun _ _ => rfl, fun _ _ _ => rfl⟩

/-! Updates that the commands of one unit do not see: of what belongs to another. -/

/-- `s` with the host's side of the TX unit taken from `r`. -/
def State.withTxOf (s r : State) : State :=
  { s with allocAnswers := r.allocAnswers, allocCalls := r.allocCalls, payload := r.payload, txStream := r.txStream }

/-- `s` with what belongs to unit `u` taken from `r`: no two units share any of it (R48). -/
def State.withUnitOf (s : State) (u : BlockUnit) (r : State) : State :=
  match u with
  | .crc => s.setCrcAcc r.crcAcc
  | .rx => s.withRxOf r
  | .tx => s.withTxOf r

theorem Blind.withUnitOf {u v : BlockUnit} (huv : u ≠ v) (r : State) : Blind u (·.withUnitOf v r) := by
  cases u <;> cases v
  case crc.crc | rx.rx | tx.tx => exact absurd rfl huv
  all_goals constructor <;> intros <;> rfl

theorem State.withUnitOf_comm {u v : BlockUnit} (huv : u ≠ v) (s q r : State) :
    (s.withUnitOf u q).withUnitOf v r = (s.withUnitOf v r).withUnitOf u q := by
  cases u <;> cases v
  case crc.crc | rx.rx | tx.tx => exact absurd rfl huv
  all_goals rfl

@[simp] theorem State.withUnitOf_responses (s : State) (u : BlockUnit) (r : State) :
    (s.withUnitOf u r).responses = s.responses := by cases u <;> rfl

@[simp] theorem State.withUnitOf_commands (s : State) (u : BlockUnit) (r : State) :
    (s.withUnitOf u r).commands = s.commands := by cases u <;> rfl

theorem State.setResponses_withUnitOf (s : State) (u : BlockUnit) (r : State) (rs : List Word) :
    (s.setResponses rs).withUnitOf u r = (s.withUnitOf u r).setResponses rs := by cases u <;> rfl

theorem State.respond_withUnitOf (s : State) (u : BlockUnit) (r : State) (st : Status) (d : Half) :
    (s.respond st d).withUnitOf u r = (s.withUnitOf u r).respond st d := by cases u <;> rfl

theorem State.respondedBefore_withUnitOf (s : State) (u : BlockUnit) (r : State) (rs : List Word) :
    (s.respondedBefore rs).withUnitOf u r = (s.withUnitOf u r).respondedBefore rs := by cases u <;> rfl

theorem State.withUnitOf_respondedBefore (s : State) (u : BlockUnit) (r : State) (rs : List Word) :
    s.withUnitOf u (r.respondedBefore rs) = s.withUnitOf u r := by cases u <;> rfl

/-- Taking a unit from elsewhere and back again. -/
theorem State.withUnitOf_restore (s : State) (u : BlockUnit) (r : State) : (s.withUnitOf u r).withUnitOf u s = s := by
  cases u <;> rfl

/-! What a command that answers does. -/

/-- A command that answers writes what belongs to its own unit and one response, with a status the catalogue gives it
(R48, R172). -/
theorem exec_writes_own_unit {i : Instr} {s t : State} (h : exec i s = .next t) :
    ∃ st d, st ∈ statusesOf i ∧ t = (s.withUnitOf (unitOf i) t).respond st d := by
  cases i with
  | crcInit | crcSeed _ | crcUpdate _ | crcRead | rxReset | rxStatus => cases h; exact ⟨.ok, _, List.mem_cons_self, rfl⟩
  | rxFeed b =>
    cases FeedAnswer.of_execRxFeed h with
    | noise | marker | illegalLength | headerByte | lastHeaderByte | bodyByte =>
      exact ⟨.incomplete, 0, List.mem_cons_self, rfl⟩
    | accepted => exact ⟨.frameReady, _, by simp [statusesOf], rfl⟩
    | rejected => exact ⟨.checksumMismatch, 0, by simp [statusesOf], rfl⟩
  | rxRead idx =>
    change execRxRead idx s = .next t at h
    rw [execRxRead_eq] at h
    cases h
    split
    · split
      · exact ⟨.outOfFrame, 0, by simp [statusesOf], rfl⟩
      · exact ⟨.ok, _, List.mem_cons_self, rfl⟩
    · exact ⟨.noFrame, 0, by simp [statusesOf], rfl⟩
  | txSend comp msg len =>
    obtain rfl | rfl | ⟨_, _, crc, rfl⟩ := execTxSend_eq_next h
    · exact ⟨.payloadTooLarge, 0, by simp [statusesOf], rfl⟩
    · exact ⟨.transportUnavailable, 0, by simp [statusesOf], rfl⟩
    · exact ⟨.ok, crc, List.mem_cons_self, rfl⟩

theorem exec_keeps_commands {i : Instr} {s t : State} (h : exec i s = .next t) : t.commands = s.commands := by
  obtain ⟨st, d, -, ht⟩ := exec_writes_own_unit h
  rw [ht, State.respond_commands, State.withUnitOf_commands]

end Sys2Proof.Machine
end

section
/-! Runs of commands: a stream of command words is executed in order (R47), and neighbours of different units may be swapped
(R48): O10 and O52. -/

namespace Sys2Proof.Machine

/-- Settles O10, by induction on the commands: a command does not see the words to come. -/
theorem stepsRunTheCommandsInOrder : Obligations.StepsRunTheCommandsInOrder := by
  intro is
  induction is with
  | nil => exact fun _ => rfl
  | cons i is ih =>
    intro s
    have hstep : step (s.setCommands (encode i :: (is.map encode ++ s.commands))) =
        andThen (exec i s) fun t => .next (t.setCommands (is.map encode ++ s.commands)) :=
      (step_of_decode rfl (decode_encode i)).trans ((Blind.setCommands _ _).exec s)
    change andThen (step (s.setCommands (encode i :: (is.map encode ++ s.commands)))) (stepMany is.length) =
      andThen (exec i s) (execAll is)
    rw [hstep, andThen_assoc]
    cases h : exec i s with
    | next t =>
      simp only [andThen_next]
      rw [← exec_keeps_commands h]
      exact ih t
    | fault r => rfl
    | refused r => rfl

/-- Whatever responses came before, `i` answers `st`, `d` from `s` and makes what belongs to its unit what it is in `r`. -/
def Answers (i : Instr) (s r : State) (st : Status) (d : Half) : Prop :=
  ∀ rs, exec i (s.setResponses rs) = .next (((s.setResponses rs).withUnitOf (unitOf i) r).respond st d)

/-- What a command does, it does whatever responses came before. -/
theorem exists_answers_of_exec {i : Instr} {s t : State} (h : exec i s = .next t) : ∃ st d, Answers i s t st d := by
  have hfresh (rs : List Word) : s.setResponses rs = (s.setResponses []).respondedBefore rs :=
    congrArg s.setResponses (List.append_nil rs).symm
  have h : exec i (s.setResponses s.responses) = .next t := h
  rw [hfresh, (Blind.respondedBefore _ _).exec] at h
  obtain ⟨t₀, h₀, ht⟩ := andThen_eq_next.mp h
  obtain rfl : t₀.respondedBefore s.responses = t := Host.Outcome.next.inj ht
  obtain ⟨st, d, -, ht₀⟩ := exec_writes_own_unit h₀
  refine ⟨st, d, fun rs => ?_⟩
  have hrs : t₀.respondedBefore rs =
      (((s.setResponses []).respondedBefore rs).withUnitOf (unitOf i) t₀).respond st d := by
    rw [State.respondedBefore_withUnitOf, ← State.respondedBefore_respond, ← ht₀]
  rw [hfresh, (Blind.respondedBefore _ _).exec, h₀, andThen_next, hrs, State.withUnitOf_respondedBefore]

/-- What a command does, it does whatever another unit holds. -/
theorem Answers.withUnitOf {i : Instr} {s r : State} {st : Status} {d : Half} (h : Answers i s r st d) {v : BlockUnit}
    (hv : unitOf i ≠ v) (q : State) : Answers i (s.withUnitOf v q) r st d := by
  intro rs
  rw [← State.setResponses_withUnitOf, (Blind.withUnitOf hv q).exec, h rs, andThen_next, State.respond_withUnitOf,
    State.withUnitOf_comm hv]

theorem Answers.exec_eq {i : Instr} {s r : State} {st : Status} {d : Half} (h : Answers i s r st d) :
    exec i s = .next ((s.withUnitOf (unitOf i) r).respond st d) := h s.responses

/-- What a command does, it does after one more response. -/
theorem Answers.respond {i : Instr} {s r : State} {st : Status} {d : Half} (h : Answers i s r st d) (st' : Status)
    (d' : Half) : Answers i (s.respond st' d') r st d := fun rs => h rs

/-- Two commands to different units, one after the other, each do what they do from the state before both. -/
theorem Answers.execAll_pair {i j : Instr} {s r q : State} {st st' : Status} {d d' : Half} (hi : Answers i s r st d)
    (hj : Answers j s q st' d') (hij : unitOf i ≠ unitOf j) :
    execAll [i, j] s = .next (((s.withUnitOf (unitOf i) r).withUnitOf (unitOf j) q).setResponses
      (s.responses ++ [responseWord st d, responseWord st' d'])) := by
  rw [execAll, hi.exec_eq, andThen_next, execAll, ((hj.withUnitOf hij.symm r).respond st d).exec_eq, andThen_next, execAll,
    State.respond_withUnitOf, State.respond_respond, State.withUnitOf_responses, State.withUnitOf_responses]

/-- Settles O52: the second command does the same from the state before both, so either order of the two does. -/
theorem commandsToDifferentUnitsCommute : Obligations.CommandsToDifferentUnitsCommute := by
  intro i j s t hij h
  obtain ⟨t₁, h₁, h₂⟩ := andThen_eq_next.mp h
  obtain ⟨_, h₂, ht⟩ := andThen_eq_next.mp h₂
  cases ht
  obtain ⟨sti, di, hi⟩ := exists_answers_of_exec h₁
  obtain ⟨stj, dj, hj⟩ := exists_answers_of_exec h₂
  have hback : t₁.withUnitOf (unitOf i) s = s.respond sti di := by
    have ht₁ := Host.Outcome.next.inj (h₁.symm.trans hi.exec_eq)
    rw [ht₁, State.respond_withUnitOf, State.withUnitOf_restore]
  have hj : Answers j s t stj dj := by
    have h := hj.withUnitOf hij.symm s
    rw [hback] at h
    exact fun rs => h rs
  have ht := Host.Outcome.next.inj (h.symm.trans (hi.execAll_pair hj hij))
  rw [State.withUnitOf_comm hij] at ht
  refine ⟨responseWord sti di, responseWord stj dj, congrArg State.responses ht, ?_⟩
  have hswap := congrArg (·.setResponses (s.responses ++ [responseWord stj dj, responseWord sti di])) ht.symm
  rw [hj.execAll_pair hi hij.symm]
  exact congrArg Host.Outcome.next hswap

end Sys2Proof.Machine
end

section
/-! Which words decode, by the rows of R73, and which words commands are written as (R75, R85, R87): O1 to O6. -/

namespace Sys2Proof

open Machine

/-! Decoding by the rows. -/

theorem decode_eq_error_iff {w : Word} {e : DecodeError} :
    decode w = .error e ↔ (∀ r ∈ decodeTable, r.selects w = false) ∧ e = illegalReason w := by
  have hnone : decodeTable.find? (·.selects w) = none ↔ ∀ r ∈ decodeTable, r.selects w = false := by simp
  rw [decode, ← hnone]
  cases decodeTable.find? (·.selects w) <;> simp [eq_comm]

theorem exists_selects_of_decode {w : Word} {i : Instr} (h : decode w = .ok i) :
    ∃ r ∈ decodeTable, r.selects w = true ∧ r.fields w = i := by
  rw [decode] at h
  split at h
  · rename_i r hfind
    cases h
    exact ⟨r, List.mem_of_find?_eq_some hfind, List.find?_some (p := fun r : Row => r.selects w) hfind, rfl⟩
  · cases h

/-- Settles O2, by the row of the command's opcode. -/
theorem decodeOfEncodeIsTheCommand : Obligations.DecodeOfEncodeIsTheCommand := decode_encode

/-- Settles O4: the opcode names the row. -/
theorem matchAndMaskRowsAreDisjoint : Obligations.MatchAndMaskRowsAreDisjoint := by
  have hselects : ∀ (r : Row) (w : Word), r.selects w = true ↔ w &&& r.mask = r.mtch := fun r w => beq_iff_eq
  refine ⟨rfl, fun w r₁ hr₁ r₂ hr₂ h₁ h₂ => ?_, fun w => ?_⟩
  · have hop₁ := Row.opcode_eq_of_selects hr₁ ((hselects r₁ w).mpr h₁)
    have hop₂ := Row.opcode_eq_of_selects hr₂ ((hselects r₂ w).mpr h₂)
    rw [Row.eq_of_opcode_eq hr₁ hr₂ (hop₁.trans hop₂.symm)]
  · simp only [decode_eq_error_iff, ← Bool.not_eq_true, hselects, exists_and_left, exists_eq, and_true, ne_eq]

/-! The word a row selects is put together again from its fields. -/

/-- Where a row's mask holds every bit, a word that selects the row has the row's bits. -/
theorem Row.extractLsb'_eq_of_selects {r : Row} {w : Word} {k n : Nat} (h : r.selects w = true)
    (hmask : r.mask.extractLsb' k n = BitVec.allOnes n) : w.extractLsb' k n = r.mtch.extractLsb' k n := by
  have hmtch : w &&& r.mask = r.mtch := eq_of_beq h
  rw [← hmtch, BitVec.extractLsb'_and, hmask, BitVec.and_allOnes]

theorem eq_formatN {op : BitVec 4} {w : Word} (h : w.extractLsb' 0 32 = formatN op) : formatN op = w :=
  h.symm.trans BitVec.extractLsb'_eq_self

theorem formatB_fieldB {op : BitVec 4} {w : Word} (h : w.extractLsb' 8 24 = op ++ 0#20) : formatB op (fieldB w) = w := by
  have hw : w.extractLsb' 8 24 ++ fieldB w = w := BitVec.extractLsb'_append_extractLsb'
  rwa [h] at hw

theorem formatH_fieldH {op : BitVec 4} {w : Word} (h : w.extractLsb' 16 16 = op ++ 0#12) : formatH op (fieldH w) = w := by
  have hw : w.extractLsb' 16 16 ++ fieldH w = w := BitVec.extractLsb'_append_extractLsb'
  rwa [h] at hw

theorem formatT_fields {op : BitVec 4} {w : Word} (h : w.extractLsb' 24 8 = op ++ 0#4) :
    formatT op (fieldComp w) (fieldMsg w) (fieldB w) = w := by
  have hcomp : w.extractLsb' 24 8 ++ fieldComp w = w.extractLsb' 16 16 :=
    BitVec.extractLsb'_append_extractLsb'_eq_extractLsb' rfl
  have hmsg : w.extractLsb' 16 16 ++ fieldMsg w = w.extractLsb' 8 24 :=
    BitVec.extractLsb'_append_extractLsb'_eq_extractLsb' rfl
  have hw : w.extractLsb' 8 24 ++ fieldB w = w := BitVec.extractLsb'_append_extractLsb'
  rwa [← hmsg, ← hcomp, h] at hw

/-- A row that selects a word reads from it the command whose word it is. -/
theorem encode_fields {r : Row} {w : Word} (hr : r ∈ decodeTable) (h : r.selects w = true) : encode (r.fields w) = w := by
  have bits {r : Row} {k n : Nat} (h : r.selects w = true) := Row.extractLsb'_eq_of_selects (k := k) (n := n) h
  revert r
  simp only [decodeTable, List.forall_mem_cons]
  exact ⟨fun h => eq_formatN (bits h rfl), fun h => formatH_fieldH (bits h rfl), fun h => formatB_fieldB (bits h rfl),
    fun h => eq_formatN (bits h rfl), fun h => eq_formatN (bits h rfl), fun h => formatB_fieldB (bits h rfl),
    fun h => formatB_fieldB (bits h rfl), fun h => eq_formatN (bits h rfl), fun h => formatT_fields (bits h rfl),
    nofun⟩

/-- Settles O3, by the row the word selects. -/
theorem onlyItsOwnWordDecodesToACommand : Obligations.OnlyItsOwnWordDecodesToACommand := by
  intro w i h
  obtain ⟨r, hr, hsel, rfl⟩ := exists_selects_of_decode h
  exact encode_fields hr hsel

/-! Which words are illegal (R75). -/

/-- A row's mask is the bits of its opcode and the must-be-zero bits of its format (R70). -/
theorem Row.mask_eq {r : Row} (hr : r ∈ decodeTable) :
    r.mask = formatN (BitVec.allOnes 4) ||| mustBeZeroBits r.opcode := by
  revert r; decide

theorem Row.mask_and_mustBeZeroBits {r : Row} (hr : r ∈ decodeTable) :
    r.mask &&& mustBeZeroBits r.opcode = mustBeZeroBits r.opcode := by
  revert r; decide

/-- A row's match bits are its opcode alone. -/
theorem Row.mtch_eq {r : Row} (hr : r ∈ decodeTable) : r.mtch = formatN r.opcode := by
  revert r; decide

theorem and_formatN_allOnes (w : Word) : w &&& formatN (BitVec.allOnes 4) = formatN (opcodeOf w) := by
  have hw : opcodeOf w ++ w.extractLsb' 0 28 = w := BitVec.extractLsb'_append_extractLsb'
  have hand : (opcodeOf w ++ w.extractLsb' 0 28) &&& formatN (BitVec.allOnes 4) = formatN (opcodeOf w) := by
    rw [formatN, BitVec.and_append, BitVec.and_allOnes]
    exact congrArg (opcodeOf w ++ ·) BitVec.and_zero
  rwa [hw] at hand

theorem formatN_and_mustBeZeroBits (op op' : BitVec 4) : formatN op &&& mustBeZeroBits op' = 0 := by
  revert op op'; decide

/-- A word selects the row of its opcode exactly when the must-be-zero bits of its format are 0 (R73, R75). -/
theorem Row.selects_iff {r : Row} {w : Word} (hr : r ∈ decodeTable) :
    r.selects w = true ↔ r.opcode = opcodeOf w ∧ w &&& mustBeZeroBits (opcodeOf w) = 0 := by
  constructor
  · intro h
    have hop := Row.opcode_eq_of_selects hr h
    have hmtch : w &&& r.mask = r.mtch := eq_of_beq h
    refine ⟨hop, ?_⟩
    rw [← hop, ← Row.mask_and_mustBeZeroBits hr, ← BitVec.and_assoc, hmtch, Row.mtch_eq hr, formatN_and_mustBeZeroBits]
  · rintro ⟨hop, hzero⟩
    have hmtch : w &&& r.mask = r.mtch := by
      rw [Row.mask_eq hr, BitVec.and_or_distrib_left, and_formatN_allOnes, hop, hzero, Row.mtch_eq hr, hop]
      exact BitVec.or_zero
    exact beq_iff_eq.mpr hmtch

/-- An opcode is assigned when a row of R73 has it. -/
theorem mem_assignedOpcodes_iff {op : BitVec 4} : op ∈ assignedOpcodes ↔ ∃ r ∈ decodeTable, r.opcode = op := by
  rw [show assignedOpcodes = decodeTable.map Row.opcode from rfl, List.mem_map]

/-- No row selects a word exactly when its opcode is reserved or a must-be-zero bit of its format is 1 (R75). -/
theorem forall_not_selects_iff {w : Word} : (∀ r ∈ decodeTable, r.selects w = false) ↔
    (opcodeOf w ∈ assignedOpcodes → w &&& mustBeZeroBits (opcodeOf w) ≠ 0) := by
  rw [mem_assignedOpcodes_iff]
  constructor
  · rintro h ⟨r, hr, hop⟩ hzero
    exact Bool.false_ne_true ((h r hr).symm.trans ((Row.selects_iff hr).mpr ⟨hop, hzero⟩))
  · refine fun h r hr => Bool.eq_false_iff.mpr fun hsel => ?_
    obtain ⟨hop, hzero⟩ := (Row.selects_iff hr).mp hsel
    exact h ⟨r, hr, hop⟩ hzero

theorem decode_eq_reservedOpcode_iff {w : Word} :
    decode w = .error .reservedOpcode ↔ opcodeOf w ∉ assignedOpcodes := by
  rw [decode_eq_error_iff, forall_not_selects_iff, illegalReason]
  by_cases h : opcodeOf w ∈ assignedOpcodes <;> simp [h]

theorem decode_eq_mustBeZeroBit_iff {w : Word} : decode w = .error .mustBeZeroBit ↔
    opcodeOf w ∈ assignedOpcodes ∧ w &&& mustBeZeroBits (opcodeOf w) ≠ 0 := by
  rw [decode_eq_error_iff, forall_not_selects_iff, illegalReason]
  by_cases h : opcodeOf w ∈ assignedOpcodes <;> simp [h]

theorem notMem_assignedOpcodes_iff (op : BitVec 4) :
    op ∉ assignedOpcodes ↔ op ∈ ([0x0, 0x5, 0x6, 0x7, 0xD, 0xE, 0xF] : List (BitVec 4)) := by
  revert op; decide

theorem step_of_decode_error {s : State} {w : Word} {rest : List Word} {e : DecodeError} (hc : s.commands = w :: rest)
    (hd : decode w = .error e) : step s = .next (s.setCommands rest).respondIllegal := by
  rw [step, State.fetchCommand_cons hc]
  dsimp only
  rw [hd]

/-- Settles O5, by the row of the word's opcode. -/
theorem illegalWordsAreTheReservedOnes : Obligations.IllegalWordsAreTheReservedOnes :=
  ⟨fun w => decode_eq_reservedOpcode_iff.trans (notMem_assignedOpcodes_iff (opcodeOf w)),
    fun _ => decode_eq_mustBeZeroBit_iff, rfl, fun _ _ _ _ hc hd => step_of_decode_error hc hd⟩

/-! Which word a written form has (R85). -/

theorem toNat_formatN (op : BitVec 4) : (formatN op).toNat = op.toNat <<< 28 := by
  rw [formatN, BitVec.toNat_append]
  simp

theorem toNat_formatB (op : BitVec 4) (b : Byte) : (formatB op b).toNat = op.toNat <<< 28 ||| b.toNat := by
  rw [formatB, BitVec.toNat_append, BitVec.toNat_append]
  simp [← Nat.shiftLeft_add]

theorem toNat_formatH (op : BitVec 4) (h : Half) : (formatH op h).toNat = op.toNat <<< 28 ||| h.toNat := by
  rw [formatH, BitVec.toNat_append, BitVec.toNat_append]
  simp [← Nat.shiftLeft_add]

theorem toNat_formatT (op : BitVec 4) (comp msg len : Byte) : (formatT op comp msg len).toNat =
    op.toNat <<< 28 ||| comp.toNat <<< 16 ||| msg.toNat <<< 8 ||| len.toNat := by
  rw [formatT, BitVec.toNat_append, BitVec.toNat_append, BitVec.toNat_append, BitVec.toNat_append]
  simp [Nat.shiftLeft_or_distrib, ← Nat.shiftLeft_add]

theorem formatB_ofNat {b : Nat} (hb : b ≤ 0xFF) (op : BitVec 4) :
    formatB op (BitVec.ofNat 8 b) = formatN op ||| BitVec.ofNat 32 b := by
  apply BitVec.eq_of_toNat_eq
  rw [toNat_formatB, BitVec.toNat_or, toNat_formatN]
  simp (disch := omega) only [BitVec.toNat_ofNat, Nat.mod_eq_of_lt]

theorem formatH_ofNat {h : Nat} (hh : h ≤ 0xFFFF) (op : BitVec 4) :
    formatH op (BitVec.ofNat 16 h) = formatN op ||| BitVec.ofNat 32 h := by
  apply BitVec.eq_of_toNat_eq
  rw [toNat_formatH, BitVec.toNat_or, toNat_formatN]
  simp (disch := omega) only [BitVec.toNat_ofNat, Nat.mod_eq_of_lt]

theorem formatT_ofNat {c m l : Nat} (hc : c ≤ 0xFF) (hm : m ≤ 0xFF) (hl : l ≤ 0xFF) (op : BitVec 4) :
    formatT op (BitVec.ofNat 8 c) (BitVec.ofNat 8 m) (BitVec.ofNat 8 l) =
      formatN op ||| BitVec.ofNat 32 c <<< 16 ||| BitVec.ofNat 32 m <<< 8 ||| BitVec.ofNat 32 l := by
  apply BitVec.eq_of_toNat_eq
  simp only [toNat_formatT, BitVec.toNat_or, toNat_formatN, BitVec.toNat_shiftLeft]
  simp (disch := omega) only [BitVec.toNat_ofNat, Nat.mod_eq_of_lt]

/-- A line in range has the word of its command; one out of range has none. -/
theorem assembleLine_eq_ite {l : Line} {p : Prop} [Decidable p] {w : Word} (hp : l.wellFormed = true ↔ p)
    (hw : p → encode l.toInstr = w) : assembleLine l = if p then some w else none := by
  rw [assembleLine]
  by_cases h : p
  · rw [if_pos (hp.mpr h), if_pos h, hw h]
  · rw [if_neg (mt hp.mp h), if_neg h]

/-- Settles O6: the word of a command is its opcode's bits and those of its operands. -/
theorem assembledWords : Obligations.AssembledWords := by
  refine ⟨rfl, fun h => ?_, fun b => ?_, rfl, rfl, fun b => ?_, fun i => ?_, rfl, fun comp msg len => ?_⟩
  · exact assembleLine_eq_ite decide_eq_true_iff (formatH_ofNat · 0x2)
  · exact assembleLine_eq_ite decide_eq_true_iff (formatB_ofNat · 0x3)
  · exact assembleLine_eq_ite decide_eq_true_iff (formatB_ofNat · 0x9)
  · exact assembleLine_eq_ite decide_eq_true_iff (formatB_ofNat · 0xA)
  · exact assembleLine_eq_ite (by simp [Line.wellFormed, and_assoc]) fun ⟨hc, hm, hl⟩ => formatT_ofNat hc hm hl 0xC

/-- Settles O1, word by word. -/
theorem listedExamplesDecode : Obligations.ListedExamplesDecode := ⟨rfl, rfl, rfl, rfl, rfl, rfl, rfl⟩

end Sys2Proof
end

section
/-! Which command returns which response (R80, R81), and the length that `RX_READFRAME` takes from the responses (R86): O8
and O59. -/

namespace Sys2Proof.Machine

/-! The announced length. -/

theorem exec_responses {i : Instr} {s t : State} (h : exec i s = .next t) :
    ∃ st d, st ∈ statusesOf i ∧ t.responses = s.responses ++ [responseWord st d] := by
  obtain ⟨st, d, hst, ht⟩ := exec_writes_own_unit h
  refine ⟨st, d, hst, ?_⟩
  rw [ht, State.respond_responses, State.withUnitOf_responses]

/-- One more response announces a length only if it is `FRAME_READY`. -/
theorem State.lastFrameReady_of_responses {s t : State} {st : Status} {d : Half}
    (h : t.responses = s.responses ++ [responseWord st d]) :
    t.lastFrameReady = if st = .frameReady then some d.toNat else s.lastFrameReady :=
  (State.lastFrameReady_congr (s := s.respond st d) h).trans (State.lastFrameReady_respond s st d)

theorem frameReady_mem_statusesOf {i : Instr} (h : .frameReady ∈ statusesOf i) : ∃ b, i = .rxFeed b := by
  cases i with
  | rxFeed b => exact ⟨b, rfl⟩
  | crcInit | crcSeed _ | crcUpdate _ | crcRead | rxReset | rxRead _ | rxStatus | txSend _ _ _ => simp [statusesOf] at h

/-- A command that is no feed announces no length (R81). -/
theorem exec_keeps_lastFrameReady {i : Instr} {s t : State} (h : exec i s = .next t) (hfeed : ∀ b, i ≠ .rxFeed b) :
    t.lastFrameReady = s.lastFrameReady := by
  obtain ⟨st, d, hst, hr⟩ := exec_responses h
  have hne : st ≠ .frameReady := by
    rintro rfl
    obtain ⟨b, hb⟩ := frameReady_mem_statusesOf hst
    exact hfeed b hb
  rw [State.lastFrameReady_of_responses hr, if_neg hne]

/-- A feed that leaves a readable frame has just announced its length (R126). -/
theorem FeedAnswer.lastFrameReady {b : Byte} {s t : State} (hs : s.frameValid = false) (h : FeedAnswer b s t)
    (ht : t.frameValid = true) : t.lastFrameReady = some t.frameLen := by
  cases h with
  | accepted =>
    have hlen : (acceptFrame (s.fb.read lengthIndex) (bodyTaken b s)).frameLen = s.frameLen := frameLen_bodyTaken b s
    have hdata : (zext16 (s.fb.read lengthIndex)).toNat = s.frameLen := BitVec.toNat_setWidth_of_le (by omega)
    rw [hlen, acceptFrame, State.lastFrameReady_respond, if_pos rfl, hdata]
  | noise | marker | illegalLength | headerByte | lastHeaderByte | bodyByte | rejected =>
    exact absurd (hs.symm.trans ht) Bool.false_ne_true

/-- Settles O59: a feed that makes a frame readable announces it, and nothing else touches either. -/
theorem announcedLengthIsTheFramesLength : Obligations.AnnouncedLengthIsTheFramesLength := by
  intro s t hs hstep ht
  obtain ⟨-, rfl⟩ | ⟨w, rest, -, ⟨e, -, rfl⟩ | ⟨i, -, he⟩⟩ := step_eq_next hstep
  · exact hs ht
  · rw [State.respondIllegal_eq, State.lastFrameReady_respond, if_neg nofun]
    exact hs ht
  · obtain ⟨b, -, hfeed⟩ | ⟨-, hreset⟩ | ⟨hfeed, -, hrx, -⟩ := exec_eq_next he
    · exact hfeed.lastFrameReady rfl ht
    · cases hreset
      cases ht
    · have hvalid : t.frameValid = s.frameValid := (congrArg State.frameValid hrx).symm
      have hlen : t.frameLen = s.frameLen := (congrArg State.frameLen hrx).symm
      rw [exec_keeps_lastFrameReady he hfeed, hlen]
      exact hs (hvalid.symm.trans ht)

/-! The response word (R80, R81). -/

theorem responseWord_zeros (st : Status) (d : Half) : (responseWord st d).extractLsb' 16 8 = 0 := by
  rw [responseWord, BitVec.extractLsb'_append_eq_of_le (by omega), BitVec.extractLsb'_append_eq_of_add_le (by omega),
    BitVec.extractLsb'_eq_self]

theorem Status.code_mem (st : Status) :
    st.code ∈ ([0x00, 0x10, 0x11, 0x12, 0x20, 0x21, 0x30, 0x31, 0xFF] : List Byte) := by
  cases st <;> decide

theorem illegalCommand_notMem_statusesOf (i : Instr) : .illegalCommand ∉ statusesOf i := by
  cases i <;> simp [statusesOf]

/-- The answer of a step carries `ILLEGAL_COMMAND` exactly for an illegal word (R171, R172). -/
theorem step_responses {s t : State} {w : Word} {rest : List Word} (hc : s.commands = w :: rest) (h : step s = .next t) :
    ∃ st d, t.responses = s.responses ++ [responseWord st d] ∧ (st = .illegalCommand ↔ ∃ e, decode w = .error e) := by
  obtain ⟨hnil, -⟩ | ⟨w', rest', hc', ⟨e, hd, rfl⟩ | ⟨i, hd, he⟩⟩ := step_eq_next h
  · cases hc.symm.trans hnil
  · cases hc.symm.trans hc'
    exact ⟨.illegalCommand, 0, rfl, iff_of_true rfl ⟨e, hd⟩⟩
  · cases hc.symm.trans hc'
    obtain ⟨st, d, hst, hr⟩ := exec_responses he
    exact ⟨st, d, hr, iff_of_false (fun h => illegalCommand_notMem_statusesOf i (h ▸ hst)) (by simp [hd])⟩

/-! Each status is returned from some state. -/

/-- A fresh unit that awaits the last byte of a frame without payload, with that checksum (the buffer reads as 0). -/
def lastByteDue (crc : Half) : State :=
  { State.reset with rxState := awaitingBody, rxCnt := 1, rxExp := 5, rxCrc := crc }

/-- A fresh unit with a readable frame of that length (the other cells read as 0). -/
def readableFrame (n : Byte) : State := { State.reset with frameValid := true, fb := [(lengthIndex, n)] }

/-- A fresh unit whose host grants the next buffer and supplies `n` payload bytes. -/
def payloadSupplied (n : Nat) : State :=
  { State.reset with transportBound := true, allocAnswers := [.granted], payload := List.replicate n 0 }

/-- A fresh unit that awaits the second byte of a header. -/
def headerByteDue : State := { State.reset with rxState := awaitingHeader, rxCnt := 1 }

theorem canAnswer_rxFeed_incomplete (b : Byte) : CanAnswer (.rxFeed b) .incomplete := ⟨headerByteDue, _, 0, rfl, rfl⟩

theorem checksumVerifies_lastByteDue (b : Byte) (crc : Half) :
    checksumVerifies 0 (bodyTaken b ((lastByteDue crc).setFrameValid false)) = (leHalf 0 b == crc) := by
  change (leHalf (Memory.read (Memory.write [] 5 b) 4) (Memory.read (Memory.write [] 5 b) 5) == crc) = _
  rw [Memory.read_write, Memory.read_write]
  rfl

theorem exec_rxFeed_lastByteDue (b : Byte) (crc : Half) : exec (.rxFeed b) (lastByteDue crc) =
    .next (endFrame 0 (bodyTaken b ((lastByteDue crc).setFrameValid false))) := by
  have hcell : bodyIndex ((lastByteDue crc).setFrameValid false) < fbSize := show 5 < 256 by omega
  have hlast : completesFrame ((lastByteDue crc).setFrameValid false) = true := rfl
  change execRxFeed b (lastByteDue crc) = _
  rw [execRxFeed_awaitingBody rfl, rxFeedBody_eq, if_pos hcell, if_pos hlast, rxComplete_eq]
  exact if_pos (show 5 < 256 by omega)

theorem canAnswer_rxFeed_frameReady (b : Byte) : CanAnswer (.rxFeed b) .frameReady := by
  refine ⟨lastByteDue (leHalf 0 b), _, 0, exec_rxFeed_lastByteDue b _, ?_⟩
  rw [endFrame, checksumVerifies_lastByteDue, if_pos (beq_self_eq_true _)]
  rfl

theorem canAnswer_rxFeed_checksumMismatch (b : Byte) : CanAnswer (.rxFeed b) .checksumMismatch := by
  refine ⟨lastByteDue (leHalf 0 b + 1), _, 0, exec_rxFeed_lastByteDue b _, ?_⟩
  rw [endFrame, checksumVerifies_lastByteDue, if_neg (by simp)]
  rfl

theorem canAnswer_rxRead_ok (idx : Byte) : CanAnswer (.rxRead idx) .ok := by
  have hlen : ¬ frameSize (readableFrame 250).frameLen ≤ idx.toNat := by
    change ¬ 256 ≤ idx.toNat; omega
  exact ⟨readableFrame 250, _, _, (execRxRead_eq idx _).trans (congrArg _ ((if_pos rfl).trans (if_neg hlen))), rfl⟩

theorem canAnswer_rxRead_outOfFrame {idx : Byte} (h : 6 ≤ idx.toNat) : CanAnswer (.rxRead idx) .outOfFrame :=
  ⟨readableFrame 0, _, 0, (execRxRead_eq idx _).trans (congrArg _ ((if_pos rfl).trans (if_pos h))), rfl⟩

/-- The payload loop ends where the host supplies enough bytes (R55). -/
theorem exists_txPayload_of_le_payload {n : Nat} (k : Nat) (w : TxWork) {s : State} (h : n ≤ s.payload.length) :
    ∃ r, txPayload n k w s = .next r := by
  induction n generalizing k w s with
  | zero => exact ⟨_, rfl⟩
  | succ n ih =>
    cases hp : s.payload with
    | nil => rw [hp] at h; cases h
    | cons p rest =>
      rw [txPayload, State.payloadRead_cons hp, andThen_next]
      rw [hp] at h
      exact ih _ _ (Nat.le_of_succ_le_succ h)

theorem canAnswer_txSend_ok (comp msg : Byte) {len : Byte} (hlen : len.toNat ≤ maxPayload) :
    CanAnswer (.txSend comp msg len) .ok := by
  obtain ⟨r, hr⟩ := exists_txPayload_of_le_payload 0 (txHeader State.reset.config.startMarker comp msg len)
    (s := (payloadSupplied len.toNat).afterAlloc (frameSize len.toNat)) (List.length_replicate (a := (0 : Byte))).ge
  obtain ⟨-, -, -, hs⟩ := txPayload_eq_next hr
  have he : exec (.txSend comp msg len) (payloadSupplied len.toNat) = andThen (.next r) _ :=
    (execTxSend_of_granted hlen rfl rfl).trans (congrArg (andThen · _) hr)
  refine ⟨_, _, r.1.crc, he, ?_⟩
  rw [hs]
  rfl

/-- Settles O8: what each command answers by the lemma that says what it can do, and each status by a state above. -/
theorem responseWordLayout : Obligations.ResponseWordLayout := by
  refine ⟨fun st d => ⟨responseStatus_responseWord st d, responseWord_zeros st d, responseData_responseWord st d⟩,
    rfl, rfl, rfl, rfl, rfl, rfl, rfl, rfl, rfl, fun i s t h => ?_, ?_, fun b => ?_, fun idx => ?_,
    fun comp msg len => ?_, fun s t w rest hc h => ?_⟩
  · cases i with
    | crcInit | crcSeed _ | crcUpdate _ | crcRead | rxStatus => cases h; exact ⟨.ok, _, rfl, nofun, nofun⟩
    | rxReset => cases h; exact ⟨.ok, 0, rfl, nofun, fun _ => rfl⟩
    | rxFeed b =>
      cases FeedAnswer.of_execRxFeed h with
      | noise | marker | illegalLength | headerByte | lastHeaderByte | bodyByte =>
        exact ⟨.incomplete, 0, rfl, ⟨b, rfl⟩, rfl⟩
      | accepted => exact ⟨.frameReady, _, rfl, b, rfl⟩
      | rejected => exact ⟨.checksumMismatch, 0, rfl, ⟨b, rfl⟩, rfl⟩
    | rxRead idx =>
      cases (execRxRead_eq idx s).symm.trans h
      split
      · split
        · exact ⟨.outOfFrame, 0, rfl, ⟨idx, rfl⟩, rfl⟩
        · exact ⟨.ok, _, rfl, nofun, nofun⟩
      · exact ⟨.noFrame, 0, rfl, ⟨idx, rfl⟩, rfl⟩
    | txSend comp msg len =>
      obtain rfl | rfl | ⟨_, _, crc, rfl⟩ := execTxSend_eq_next h
      · exact ⟨.payloadTooLarge, 0, rfl, ⟨comp, msg, len, rfl⟩, rfl⟩
      · exact ⟨.transportUnavailable, 0, rfl, ⟨comp, msg, len, rfl⟩, rfl⟩
      · exact ⟨.ok, crc, rfl, nofun, nofun⟩
  · exact ⟨⟨.reset, _, _, rfl, rfl⟩, fun _ => ⟨.reset, _, _, rfl, rfl⟩, fun _ => ⟨.reset, _, _, rfl, rfl⟩,
      ⟨.reset, _, _, rfl, rfl⟩, ⟨.reset, _, _, rfl, rfl⟩, canAnswer_rxRead_ok, ⟨.reset, _, _, rfl, rfl⟩⟩
  · exact ⟨canAnswer_rxFeed_incomplete b, canAnswer_rxFeed_frameReady b, canAnswer_rxFeed_checksumMismatch b⟩
  · exact ⟨⟨.reset, _, 0, rfl, rfl⟩, canAnswer_rxRead_outOfFrame⟩
  · exact ⟨fun hlen => ⟨canAnswer_txSend_ok comp msg hlen, .reset, _, 0, if_neg (Nat.not_lt.mpr hlen), rfl⟩,
      fun hlen => ⟨.reset, _, 0, if_pos hlen, rfl⟩⟩
  · obtain ⟨st, d, hr, hst⟩ := step_responses hc h
    have hcode : (responseWord st d).extractLsb' 24 8 = st.code := responseStatus_responseWord st d
    refine ⟨responseWord st d, hr, ?_, ?_⟩
    · rw [hcode]; exact st.code_mem
    · rw [hcode, ← hst]; exact Status.code_inj (st' := .illegalCommand)

end Sys2Proof.Machine
end

section
/-! What the expansions of the pseudo-instructions do, by induction on their bytes (R86): O7. -/

namespace Sys2Proof.Machine

theorem execAll_append (is js : List Instr) (s : State) : execAll (is ++ js) s = andThen (execAll is s) (execAll js) := by
  induction is generalizing s with
  | nil => rfl
  | cons i is ih => exact (congrArg (andThen (exec i s)) (funext ih)).trans (andThen_assoc _ _ _).symm

/-! The CRC expansions. -/

/-- `CRC_UPDATE`s fold their bytes into `CRC_ACC`, one response a byte (R102, R105). -/
theorem execAll_crcUpdate (bytes : List Byte) (s : State) : ∃ rs, rs.length = bytes.length ∧
    execAll (bytes.map .crcUpdate) s =
      .next ((s.setCrcAcc (crc16Update s.crcAcc bytes)).setResponses (s.responses ++ rs)) := by
  induction bytes generalizing s with
  | nil => exact ⟨[], rfl, by rw [List.append_nil]; rfl⟩
  | cons b bytes ih =>
    obtain ⟨rs, hlen, he⟩ := ih (s.loadCrcAcc (crcStep s.crcAcc b))
    refine ⟨responseWord .ok (crcStep s.crcAcc b) :: rs, congrArg Nat.succ hlen, he.trans ?_⟩
    rw [List.append_cons s.responses]
    rfl

/-- A seed, the bytes and a read leave the CRC of the bytes and return it last (R86, R104 to R106). -/
theorem execAll_crcSeed_crcUpdate_crcRead (p : Half) (bytes : List Byte) (s : State) :
    ∃ rs, rs.length = bytes.length + 1 ∧
    execAll (.crcSeed p :: (bytes.map .crcUpdate ++ [.crcRead])) s =
      .next ((s.setCrcAcc (crc16Update p bytes)).setResponses
        (s.responses ++ rs ++ [responseWord .ok (crc16Update p bytes)])) := by
  obtain ⟨rs, hlen, he⟩ := execAll_crcUpdate bytes (s.loadCrcAcc p)
  refine ⟨responseWord .ok p :: rs, congrArg Nat.succ hlen, ?_⟩
  change execAll (bytes.map .crcUpdate ++ [.crcRead]) (s.loadCrcAcc p) = _
  rw [execAll_append, he, List.append_cons s.responses]
  rfl

/-! The feeds. -/

/-- In a state that meets the invariant every feed is answered, one response a byte (R86). -/
theorem BlockInv.execAll_rxFeed {s : State} (h : BlockInv s) (bytes : List Byte) : ∃ t rs,
    execAll (bytes.map .rxFeed) s = .next t ∧ t.responses = s.responses ++ rs ∧ rs.length = bytes.length := by
  induction bytes generalizing s with
  | nil => exact ⟨s, [], rfl, (List.append_nil _).symm, rfl⟩
  | cons b bytes ih =>
    obtain ⟨u, hu, hinv⟩ := h.execRxFeed b
    obtain ⟨st, d, -, hr⟩ := exec_responses (i := .rxFeed b) hu
    obtain ⟨t, rs, ht, hrs, hlen⟩ := ih hinv
    have hall : execAll ((b :: bytes).map .rxFeed) s = andThen (.next u) (execAll (bytes.map .rxFeed)) :=
      congrArg (andThen · _) hu
    refine ⟨t, responseWord st d :: rs, hall.trans ht, ?_, congrArg Nat.succ hlen⟩
    rw [hrs, hr, List.append_assoc, List.singleton_append]

/-! The reads of a frame. -/

/-- The last `FRAME_READY` response is the one that no other follows (R86). -/
theorem State.lastFrameReady_of_responses_eq {s : State} {n : Half} {before after : List Word}
    (hr : s.responses = before ++ responseWord .frameReady n :: after)
    (hafter : ∀ w ∈ after, responseStatus w ≠ Status.frameReady.code) : s.lastFrameReady = some n.toNat := by
  have hnone : after.reverse.find? (fun w => responseStatus w == Status.frameReady.code) = none := by
    simpa using hafter
  rw [State.lastFrameReady, hr, List.reverse_append, List.reverse_cons, List.append_assoc, List.find?_append, hnone]
  simp

theorem expandPseudo_rxReadFrame {s : State} {n : Nat} (hlast : s.lastFrameReady = some n) (hn : n ≤ maxPayload) :
    expandPseudo .rxReadFrame s = some (readFrameCommands n) := by
  rw [expandPseudo, hlast]
  exact if_pos hn

/-- Reads inside a readable frame return its bytes, in the order they are read, and change nothing (R128). -/
theorem execAll_rxRead (is : List Nat) {s : State} (hv : s.frameValid = true) (hlen : s.frameLen ≤ maxPayload)
    (his : ∀ i ∈ is, i < frameSize s.frameLen) : execAll (is.map fun i => .rxRead (BitVec.ofNat 8 i)) s =
      .next (s.setResponses (s.responses ++ is.map fun i => responseWord .ok (zext16 (s.fb.read i)))) := by
  induction is generalizing s with
  | nil => rw [List.map_nil, List.map_nil, List.append_nil]; rfl
  | cons i is ih =>
    obtain ⟨hi, his⟩ := List.forall_mem_cons.mp his
    have hi' : (BitVec.ofNat 8 i).toNat = i := by
      unfold maxPayload at hlen
      unfold frameSize headerSize checksumSize at hi
      rw [BitVec.toNat_ofNat]; omega
    have hread : execRxRead (BitVec.ofNat 8 i) s = .next (s.respond .ok (zext16 (s.fb.read i))) := by
      rw [execRxRead_eq, if_pos hv, hi', if_neg (Nat.not_le.mpr hi)]
    have hall : execAll ((i :: is).map fun i => .rxRead (BitVec.ofNat 8 i)) s = andThen (.next _) (execAll _) :=
      congrArg (andThen · _) hread
    rw [hall, andThen_next, ih (s := s.respond .ok (zext16 (s.fb.read i))) hv hlen his, List.map_cons, List.append_cons]
    rfl

/-- Settles O7, expansion by expansion. -/
theorem pseudoInstructionsRunTheirExpansions : Obligations.PseudoInstructionsRunTheirExpansions := by
  refine ⟨fun _ _ => rfl, fun _ _ _ => rfl, fun _ _ => rfl, fun n before after s hn hr hafter => ?_,
    execAll_crcSeed_crcUpdate_crcRead crcInit, execAll_crcSeed_crcUpdate_crcRead, fun s => ?_,
    fun bytes s hinv => hinv.execAll_rxFeed bytes, fun s hv hlen hlast => ?_⟩
  · exact expandPseudo_rxReadFrame (State.lastFrameReady_of_responses_eq hr hafter) hn
  · exact congrArg Host.Outcome.next (State.respond_respond (s.setCrcAcc crcInit) .ok .ok crcInit crcInit)
  · refine ⟨_, expandPseudo_rxReadFrame hlast hlen, ?_⟩
    have hrange : ∀ i ∈ List.range (s.frameLen + 6), i < frameSize s.frameLen := fun i hi => by
      have := List.mem_range.mp hi
      unfold frameSize headerSize checksumSize
      omega
    have hbytes : s.fbBytes 0 (s.frameLen + 6) = (List.range (s.frameLen + 6)).map s.fb.read := by simp [State.fbBytes]
    rw [readFrameCommands, execAll_rxRead _ hv hlen hrange, hbytes, List.map_map]
    rfl

end Sys2Proof.Machine
end

section
/-! The algebra of the CRC: the division is linear and one to one, a step is eight bits of it, and two checksum bytes are
sixteen bits of it on their difference from the accumulator (R100 to R109): O15 to O19 and O23. -/

namespace Sys2Proof.Machine

/-! The reflected division. -/

theorem crcBits_eq_iterate (n : Nat) (c : Half) : crcBits n c = crcBit^[n] c := by
  induction n generalizing c with
  | zero => rfl
  | succ n ih => exact ih (crcBit c)

theorem crcBits_add (m n : Nat) (c : Half) : crcBits (m + n) c = crcBits m (crcBits n c) := by
  simp only [crcBits_eq_iterate, Function.iterate_add_apply]

theorem crcBit_of_even {c : Half} (h : c.getLsbD 0 = false) : crcBit c = c >>> 1 :=
  if_neg (Bool.eq_false_iff.mp h)

theorem crcBit_of_odd {c : Half} (h : c.getLsbD 0 = true) : crcBit c = (c >>> 1) ^^^ crcPolyR := if_pos h

/-- One bit of the division is linear over exclusive or: the polynomial is added once for each odd operand. -/
theorem crcBit_xor (x y : Half) : crcBit (x ^^^ y) = crcBit x ^^^ crcBit y := by
  have hxy : (x ^^^ y).getLsbD 0 = (x.getLsbD 0 ^^ y.getLsbD 0) := BitVec.getLsbD_xor
  have hshift : (x ^^^ y) >>> 1 = (x >>> 1) ^^^ (y >>> 1) := BitVec.ushiftRight_xor_distrib ..
  cases hx : x.getLsbD 0 <;> cases hy : y.getLsbD 0 <;> rw [hx, hy] at hxy
  · rw [crcBit_of_even hxy, crcBit_of_even hx, crcBit_of_even hy, hshift]
  · rw [crcBit_of_odd hxy, crcBit_of_even hx, crcBit_of_odd hy, hshift, BitVec.xor_assoc]
  · rw [crcBit_of_odd hxy, crcBit_of_odd hx, crcBit_of_even hy, hshift, BitVec.xor_assoc, BitVec.xor_assoc,
      BitVec.xor_comm crcPolyR]
  · rw [crcBit_of_even hxy, crcBit_of_odd hx, crcBit_of_odd hy, hshift, BitVec.xor_assoc, BitVec.xor_comm crcPolyR,
      BitVec.xor_assoc (y >>> 1), BitVec.xor_self, BitVec.xor_zero]

theorem crcBits_xor (n : Nat) (x y : Half) : crcBits n (x ^^^ y) = crcBits n x ^^^ crcBits n y := by
  induction n generalizing x y with
  | zero => rfl
  | succ n ih => rw [crcBits, crcBit_xor]; exact ih ..

/-- The top bit of the polynomial is set, so the top bit of the result tells which bit was shifted out. -/
theorem getLsbD_crcBit_top (c : Half) : (crcBit c).getLsbD 15 = c.getLsbD 0 := by
  have hpoly : crcPolyR.getLsbD 15 = true := rfl
  have hshift : (c >>> 1).getLsbD 15 = false := by simp
  cases hc : c.getLsbD 0
  · rw [crcBit_of_even hc, hshift]
  · rw [crcBit_of_odd hc, BitVec.getLsbD_xor, hshift, hpoly]; rfl

theorem crcBit_eq_zero_iff {c : Half} : crcBit c = 0 ↔ c = 0 := by
  constructor
  · intro h
    have hlow : c.getLsbD 0 = false := by rw [← getLsbD_crcBit_top, h]; rfl
    rw [crcBit_of_even hlow] at h
    refine BitVec.eq_of_getLsbD_eq fun i hi => ?_
    cases i with
    | zero => exact hlow
    | succ i => simpa [Nat.add_comm] using congrArg (·.getLsbD i) h
  · rintro rfl; rfl

theorem crcBits_eq_zero_iff {n : Nat} {c : Half} : crcBits n c = 0 ↔ c = 0 := by
  induction n generalizing c with
  | zero => rfl
  | succ n ih => exact ih.trans crcBit_eq_zero_iff

/-- The division is one to one: it is linear, and only 0 goes to 0. -/
theorem crcBits_inj {n : Nat} {x y : Half} : crcBits n x = crcBits n y ↔ x = y := by
  rw [← BitVec.xor_eq_zero_iff, ← crcBits_xor]
  exact crcBits_eq_zero_iff.trans BitVec.xor_eq_zero_iff

/-- While the bits shifted out are 0 the division only shifts. -/
theorem crcBits_eq_ushiftRight {n : Nat} {c : Half} (h : ∀ i < n, c.getLsbD i = false) : crcBits n c = c >>> n := by
  induction n generalizing c with
  | zero => rfl
  | succ n ih =>
    have hbit : crcBit c = c >>> 1 := crcBit_of_even (h 0 n.succ_pos)
    have hnext : ∀ i < n, (crcBit c).getLsbD i = false := fun i hi => by
      rw [hbit, BitVec.getLsbD_ushiftRight]
      exact h _ (by omega)
    rw [crcBits, ih hnext, hbit, ← BitVec.shiftRight_add, Nat.add_comm]

/-! The two bytes of a 16-bit value. -/

theorem leHalf_eq_append (lo hi : Byte) : leHalf lo hi = hi ++ lo :=
  (BitVec.or_comm ..).trans BitVec.setWidth_append_eq_shiftLeft_setWidth_or.symm

@[simp] theorem loByte_leHalf (lo hi : Byte) : loByte (leHalf lo hi) = lo := by
  rw [leHalf_eq_append]; exact BitVec.extractLsb'_append_eq_right

@[simp] theorem hiByte_leHalf (lo hi : Byte) : hiByte (leHalf lo hi) = hi := by
  rw [leHalf_eq_append]; exact BitVec.extractLsb'_append_eq_left

@[simp] theorem leHalf_loByte_hiByte (v : Half) : leHalf (loByte v) (hiByte v) = v := by
  rw [leHalf_eq_append]
  exact (BitVec.extractLsb'_append_extractLsb'_eq_extractLsb' rfl).trans BitVec.extractLsb'_eq_self

theorem leHalf_inj {lo hi lo' hi' : Byte} : leHalf lo hi = leHalf lo' hi' ↔ lo = lo' ∧ hi = hi' := by
  constructor
  · intro h
    exact ⟨by simpa using congrArg loByte h, by simpa using congrArg hiByte h⟩
  · rintro ⟨rfl, rfl⟩; rfl

theorem leHalf_xor_leHalf (lo hi lo' hi' : Byte) :
    leHalf lo hi ^^^ leHalf lo' hi' = leHalf (lo ^^^ lo') (hi ^^^ hi') := by
  simp only [leHalf_eq_append]; exact BitVec.xor_append

theorem zext16_eq_leHalf (b : Byte) : zext16 b = leHalf b 0 := by simp [leHalf, zext16]

@[simp] theorem hiByte_zext16 (b : Byte) : hiByte (zext16 b) = 0 := by rw [zext16_eq_leHalf, hiByte_leHalf]

theorem ushiftRight_eq_zext16_hiByte (v : Half) : v >>> 8 = zext16 (hiByte v) := by
  have hv := v.isLt
  refine BitVec.eq_of_toNat_eq ?_
  simp only [zext16, hiByte, BitVec.toNat_ushiftRight, BitVec.toNat_setWidth, BitVec.extractLsb'_toNat,
    Nat.shiftRight_eq_div_pow]
  omega

/-- The high byte of a dividend comes out of eight bits of the division as it is. -/
theorem crcBits_leHalf_zero (hi : Byte) : crcBits 8 (leHalf 0 hi) = zext16 hi := by
  have hlow : ∀ i < 8, (leHalf 0 hi).getLsbD i = false := fun i h => by simp [leHalf, zext16, h]
  rw [crcBits_eq_ushiftRight hlow, ushiftRight_eq_zext16_hiByte, hiByte_leHalf]

/-! The one-byte step. -/

/-- Eight bits of the division, by the table: the low byte selects the entry, the high byte comes out as it is (R101). -/
theorem crcBits_eq_crcTableEntry (c : Half) : crcBits 8 c = (c >>> 8) ^^^ crcTableEntry (loByte c) := by
  have hsplit : leHalf 0 (hiByte c) ^^^ zext16 (loByte c) = c := by simp [zext16_eq_leHalf, leHalf_xor_leHalf]
  rw [ushiftRight_eq_zext16_hiByte, ← crcBits_leHalf_zero]
  exact (congrArg (crcBits 8) hsplit.symm).trans (crcBits_xor ..)

/-- The two forms of the step (R101): the byte reaches only the bits that select the entry. -/
theorem crcStep_eq_crcStepBitwise (acc : Half) (b : Byte) : crcStep acc b = crcStepBitwise acc b := by
  have hshift : (acc ^^^ zext16 b) >>> 8 = acc >>> 8 := by
    rw [BitVec.ushiftRight_xor_distrib, ushiftRight_eq_zext16_hiByte (zext16 b), hiByte_zext16]
    exact BitVec.xor_zero
  have hlow : (acc ^^^ zext16 b).setWidth 8 = loByte (acc ^^^ zext16 b) := BitVec.setWidth_eq_extractLsb' (by decide)
  calc crcStep acc b
      = (acc >>> 8) ^^^ crcTableEntry ((acc ^^^ zext16 b).setWidth 8) := rfl
    _ = ((acc ^^^ zext16 b) >>> 8) ^^^ crcTableEntry (loByte (acc ^^^ zext16 b)) := by rw [hshift, hlow]
    _ = crcStepBitwise acc b := (crcBits_eq_crcTableEntry _).symm

theorem crcStep_inj {acc acc' : Half} {b b' : Byte} :
    crcStep acc b = crcStep acc' b' ↔ acc ^^^ zext16 b = acc' ^^^ zext16 b' := by
  rw [crcStep_eq_crcStepBitwise, crcStep_eq_crcStepBitwise]
  exact crcBits_inj

theorem crcStep_acc_inj {acc acc' : Half} {b : Byte} : crcStep acc b = crcStep acc' b ↔ acc = acc' :=
  crcStep_inj.trans (BitVec.xor_left_inj _)

theorem zext16_inj {b b' : Byte} : zext16 b = zext16 b' ↔ b = b' := by
  simp [zext16_eq_leHalf, leHalf_inj]

theorem crcStep_byte_inj {acc : Half} {b b' : Byte} : crcStep acc b = crcStep acc b' ↔ b = b' :=
  crcStep_inj.trans ((BitVec.xor_right_inj _).trans zext16_inj)

/-- Two steps are sixteen bits of the division of the accumulator's difference from the two bytes read as a checksum. -/
theorem crcStep_crcStep (acc : Half) (lo hi : Byte) :
    crcStep (crcStep acc lo) hi = crcBits 16 (acc ^^^ leHalf lo hi) := by
  calc crcStep (crcStep acc lo) hi
      = crcBits 8 (crcBits 8 (acc ^^^ zext16 lo) ^^^ crcBits 8 (leHalf 0 hi)) := by
        rw [crcStep_eq_crcStepBitwise, crcStep_eq_crcStepBitwise, crcBits_leHalf_zero]; rfl
    _ = crcBits 16 (acc ^^^ (zext16 lo ^^^ leHalf 0 hi)) := by rw [← crcBits_xor, ← crcBits_add, BitVec.xor_assoc]
    _ = crcBits 16 (acc ^^^ leHalf lo hi) := by simp [zext16_eq_leHalf, leHalf_xor_leHalf]

/-! The whole-sequence CRC. -/

theorem crc16Update_append (p : Half) (s t : List Byte) : crc16Update p (s ++ t) = crc16Update (crc16Update p s) t :=
  List.foldl_append

theorem crc16Update_inj {p q : Half} {s : List Byte} : crc16Update p s = crc16Update q s ↔ p = q := by
  induction s generalizing p q with
  | nil => rfl
  | cons b s ih => exact ih.trans crcStep_acc_inj

/-- The residue test accepts exactly the checksum that the comparison accepts (R108). -/
theorem crc16_append_eq_zero_iff (s : List Byte) (lo hi : Byte) :
    crc16 (s ++ [lo, hi]) = 0 ↔ leHalf lo hi = crc16 s := by
  have hsteps : crc16 (s ++ [lo, hi]) = crcBits 16 (crc16 s ^^^ leHalf lo hi) :=
    (crc16Update_append ..).trans (crcStep_crcStep ..)
  rw [hsteps, crcBits_eq_zero_iff, eq_comm (a := leHalf lo hi)]
  exact BitVec.xor_eq_zero_iff

/-- A sequence followed by its own checksum has CRC zero (R108). -/
theorem crc16_append_checksum (s : List Byte) : crc16 (s ++ [loByte (crc16 s), hiByte (crc16 s)]) = 0 :=
  (crc16_append_eq_zero_iff ..).mpr (leHalf_loByte_hiByte _)

theorem flipBit_ne {bit : Nat} (b : Byte) (h : bit < 8) : flipBit b bit ≠ b := fun he => by
  have hbit := congrArg (·.getLsbD bit) he
  simp [flipBit, h] at hbit

/-- A flipped bit changes the step of its byte, and no later step can bring the accumulators together again (R109). -/
theorem crc16Update_flipAt_ne {bytes : List Byte} {pos bit : Nat} (p : Half) (hpos : pos < bytes.length)
    (hbit : bit < 8) : crc16Update p (flipAt bytes pos bit) ≠ crc16Update p bytes := by
  induction bytes generalizing p pos with
  | nil => exact absurd hpos (Nat.not_lt_zero _)
  | cons b bytes ih =>
    cases pos with
    | zero => exact fun he => flipBit_ne b hbit (crcStep_byte_inj.mp (crc16Update_inj.mp he))
    | succ pos => exact ih _ (Nat.lt_of_succ_lt_succ hpos)

/-! The settled statements. -/

/-- Settles O16, by `crcStep_eq_crcStepBitwise`. -/
theorem crcStepTableAndBitwiseFormsAgree : Obligations.CrcStepTableAndBitwiseFormsAgree := fun acc b =>
  ⟨congrArg (fun i => (acc >>> 8) ^^^ crcTableEntry i) (BitVec.setWidth_eq_extractLsb' (by decide)),
    (crcStep_eq_crcStepBitwise acc b).trans (crcBits_eq_iterate 8 _)⟩

/-- Settles O17: the CRC is a left fold, so it splits at every append. -/
theorem crcChunking : Obligations.CrcChunking :=
  ⟨fun p b s => ⟨crc16Update_nil p, crc16Update_cons p b s⟩, fun _ => rfl, rfl,
    fun p s t => (crc16Update_append p s t).symm, fun _ => List.foldl_flatten.symm⟩

/-- Settles O18, by `crc16_append_eq_zero_iff`. -/
theorem crcResidue : Obligations.CrcResidue :=
  ⟨crc16_append_checksum, by decide, crc16_append_eq_zero_iff⟩

/-- Settles O19, by `crc16Update_flipAt_ne`. -/
theorem crcDetectsEverySingleBitError : Obligations.CrcDetectsEverySingleBitError := fun _ _ _ hpos hbit =>
  crc16Update_flipAt_ne crcInit hpos hbit

/-- The listing of R100 is the formula, entry by entry. -/
theorem crcTableListed_eq_map : crcTableListed = (List.range 256).map fun i => crcTableEntry (BitVec.ofNat 8 i) := by
  decide +kernel

/-- Settles O15: the formula is `crcBits_eq_iterate`, the listing is `crcTableListed_eq_map`. -/
theorem crcTableListing : Obligations.CrcTableListing := by
  refine ⟨fun i => crcBits_eq_iterate 8 _, ?_, fun i => ?_⟩
  · rw [crcTableListed_eq_map, List.length_map, List.length_range]
  · rw [crcTableListed_eq_map, List.getElem?_map, List.getElem?_range i.isLt, Option.map_some, BitVec.ofNat_toNat,
      BitVec.setWidth_eq]

/-- The two bytes of the step at byte 0: the entry of the low byte, with the old high byte added to its low byte. -/
theorem crcStep_zero (acc : Half) : crcStep acc 0 =
    leHalf (hiByte acc ^^^ loByte (crcTableEntry (loByte acc))) (hiByte (crcTableEntry (loByte acc))) := by
  have hdividend : acc ^^^ zext16 0 = acc := BitVec.xor_zero
  calc crcStep acc 0
      = crcBits 8 acc := by rw [crcStep_eq_crcStepBitwise]; exact congrArg (crcBits 8) hdividend
    _ = leHalf (hiByte acc) 0 ^^^ leHalf (loByte (crcTableEntry (loByte acc))) (hiByte (crcTableEntry (loByte acc))) := by
        rw [crcBits_eq_crcTableEntry, ushiftRight_eq_zext16_hiByte, zext16_eq_leHalf, leHalf_loByte_hiByte]
    _ = _ := (leHalf_xor_leHalf ..).trans (congrArg (leHalf _) BitVec.zero_xor)

/-- The low bytes that a fixed point can have. Its high byte is the high byte of its entry (`crcStep_zero`), so its low
byte is the entry's two bytes added; over the 256 entries only two indices are. -/
theorem crcTableEntry_bytes_xor_eq_self_iff : ∀ l : Byte,
    hiByte (crcTableEntry l) ^^^ loByte (crcTableEntry l) = l ↔ l = 0x00 ∨ l = 0x0F := by
  decide +kernel

/-- Settles O23: by its entry in the table, the low byte of a fixed point is `0x00` or `0x0F`, and each fixes the high
byte. -/
theorem crcStepFixedPointsAtByteZero : Obligations.CrcStepFixedPointsAtByteZero := by
  intro acc
  constructor
  · intro h
    obtain ⟨hlo, hhi⟩ := leHalf_inj.mp ((crcStep_zero acc).symm.trans (h.trans (leHalf_loByte_hiByte acc).symm))
    rw [← hhi] at hlo
    rw [← leHalf_loByte_hiByte acc, ← hhi]
    exact ((crcTableEntry_bytes_xor_eq_self_iff _).mp hlo).imp (fun hl => by rw [hl]; rfl) fun hl => by rw [hl]; rfl
  · rintro (rfl | rfl) <;> rfl

end Sys2Proof.Machine
end

section
/-! The commands of the CRC unit from every state (R103 to R106): O20 to O22 and O24. -/

namespace Sys2Proof.Machine

/-- What the three writing commands of the unit share: `CRC_ACC` is written and returned, nothing else changes. -/
theorem State.loadCrcAcc_eq (s : State) (v : Half) :
    s.loadCrcAcc v = { s with crcAcc := v, responses := s.responses ++ [responseWord .ok v] } := rfl

/-- `CRC_INIT` is the seed with the initial value (R104). -/
theorem exec_crcSeed_crcInit (s : State) : exec (.crcSeed crcInit) s = exec .crcInit s := rfl

/-- Settles O20, by `State.loadCrcAcc_eq`. -/
theorem crcInitResult : Obligations.CrcInitResult := fun s => congrArg Host.Outcome.next (s.loadCrcAcc_eq crcInit)

/-- Settles O21, by `State.loadCrcAcc_eq`. -/
theorem crcSeedResult : Obligations.CrcSeedResult :=
  ⟨fun h s => congrArg Host.Outcome.next (s.loadCrcAcc_eq h), exec_crcSeed_crcInit, by decide, rfl⟩

/-- Settles O22, by `State.loadCrcAcc_eq` and `crc16_append_checksum`; the corner values are computed. -/
theorem crcUpdateResult : Obligations.CrcUpdateResult :=
  ⟨fun b s => congrArg Host.Outcome.next (s.loadCrcAcc_eq (crcStep s.crcAcc b)), by decide, by decide, by decide,
    crc16_append_checksum⟩

/-- Settles O24: the reads by definition, the sequence as the seeded run `execAll_crcSeed_crcUpdate_crcRead`. -/
theorem crcReadResult : Obligations.CrcReadResult := by
  refine ⟨fun s => rfl, rfl, fun s => ?_⟩
  have hcrc : crc16Update crcInit [0x31, 0x32, 0x33, 0x34, 0x35, 0x36, 0x37, 0x38, 0x39] = 0x6F91 := by decide
  obtain ⟨rs, -, hrun⟩ := execAll_crcSeed_crcUpdate_crcRead crcInit
    [0x31, 0x32, 0x33, 0x34, 0x35, 0x36, 0x37, 0x38, 0x39] s
  rw [hcrc] at hrun
  exact ⟨rs, hrun⟩

end Sys2Proof.Machine
end

section
/-! One command of the RX unit, from every state it is defined in (R120 to R128, R137): O26 to O31, O33, O36 to O38. -/

namespace Sys2Proof.Machine

/-! The reset and the reads. -/

/-- Settles O26, by the definition of the command. -/
theorem rxResetResult : Obligations.RxResetResult := fun _ => rfl

/-- Settles O38: the three answers by the branches of `execRxRead_eq`, and the marker by the invariant. -/
theorem rxReadResult : Obligations.RxReadResult := by
  refine ⟨fun s hinv hv => ?_, fun i s => ⟨fun hv => ?_, fun hv hi => ?_, fun hv hi => ?_⟩⟩
  · obtain ⟨-, -, hmarker, -⟩ := hinv.valid hv
    have hi : ¬ frameSize s.frameLen ≤ (0 : Byte).toNat := Nat.not_succ_le_zero _
    have hread := execRxRead_eq 0 s
    rw [if_pos hv, if_neg hi, show s.fb.read (0 : Byte).toNat = s.config.startMarker from hmarker] at hread
    exact hread
  · exact (execRxRead_eq i s).trans (congrArg _ (if_neg (Bool.eq_false_iff.mp hv)))
  · have hi : frameSize s.frameLen ≤ i.toNat := by unfold frameSize headerSize checksumSize; omega
    exact (execRxRead_eq i s).trans (congrArg _ ((if_pos hv).trans (if_pos hi)))
  · have hi : ¬ frameSize s.frameLen ≤ i.toNat := by unfold frameSize headerSize checksumSize; omega
    exact (execRxRead_eq i s).trans (congrArg _ ((if_pos hv).trans (if_neg hi)))

/-! What a feed answers, branch by branch, under what the branch needs and no more. -/

theorem execRxFeed_marker {s : State} (hs : s.rxState = awaitingStart) :
    execRxFeed s.config.startMarker s = .next (beginFrame s.config.startMarker (s.setFrameValid false)) := by
  rw [execRxFeed_awaitingStart hs, rxFeedStart_eq_beginFrame]
  exact congrArg _ (if_pos rfl)

theorem execRxFeed_noise {b : Byte} {s : State} (hs : s.rxState = awaitingStart) (hb : b ≠ s.config.startMarker) :
    execRxFeed b s = .next ((s.setFrameValid false).respond .incomplete 0) := by
  rw [execRxFeed_awaitingStart hs, rxFeedStart_eq_beginFrame]
  exact congrArg _ (if_neg hb)

theorem execRxFeed_illegalLength {b : Byte} {s : State} (hs : s.rxState = awaitingHeader) (hcnt : s.rxCnt = 0)
    (hb : maxPayload < b.toNat) : execRxFeed b s = .next (dropFrame (s.setFrameValid false)) := by
  have hillegal : illegalLength b (s.setFrameValid false) = true := illegalLength_iff.mpr ⟨hcnt, hb⟩
  rw [execRxFeed_awaitingHeader hs, rxFeedHeader_eq, if_pos hillegal]

theorem execRxFeed_headerByte {b : Byte} {s : State} (hs : s.rxState = awaitingHeader) (hcnt : s.rxCnt.toNat < 2)
    (hb : s.rxCnt = 0 → b.toNat ≤ maxPayload) :
    execRxFeed b s = .next (countByte (headerTaken b (s.setFrameValid false))) := by
  have hlegal : ¬ illegalLength b (s.setFrameValid false) = true := fun h =>
    Nat.not_lt.mpr (hb (illegalLength_iff.mp h).1) (illegalLength_iff.mp h).2
  have hcell : headerIndex (s.setFrameValid false) < fbSize := by
    change 1 + s.rxCnt.toNat < 256; omega
  have hne : (headerTaken b (s.setFrameValid false)).rxCnt ≠ 2 := by
    change s.rxCnt ≠ 2; bv_omega
  rw [execRxFeed_awaitingHeader hs, rxFeedHeader_eq, if_neg hlegal, if_pos hcell, rxHeaderWritten_eq, if_neg hne]

/-- The third header byte leaves the length byte as it is. -/
theorem frameLen_headerTaken_of_last {b : Byte} {s : State} (hcnt : s.rxCnt = 2) :
    (headerTaken b s).frameLen = s.frameLen := by
  change ((s.fb.write (1 + s.rxCnt.toNat) b).read lengthIndex).toNat = _
  rw [hcnt, Memory.read_write, if_neg (by decide)]
  rfl

theorem execRxFeed_lastHeaderByte {b : Byte} {s : State} (hs : s.rxState = awaitingHeader) (hcnt : s.rxCnt = 2)
    (hlen : s.frameLen ≤ maxPayload) :
    execRxFeed b s = .next (beginBody (headerTaken b (s.setFrameValid false))) := by
  have hlegal : ¬ illegalLength b (s.setFrameValid false) = true := fun h =>
    absurd (hcnt.symm.trans (illegalLength_iff.mp h).1) (by decide)
  have hcell : headerIndex (s.setFrameValid false) < fbSize := by
    change 1 + s.rxCnt.toNat < 256; rw [hcnt]; decide
  have hfl : (headerTaken b (s.setFrameValid false)).frameLen = s.frameLen := frameLen_headerTaken_of_last hcnt
  unfold maxPayload at hlen
  rw [execRxFeed_awaitingHeader hs, rxFeedHeader_eq, if_neg hlegal, if_pos hcell, rxHeaderWritten_eq,
    if_pos (show (headerTaken b (s.setFrameValid false)).rxCnt = 2 from hcnt), if_pos (by omega)]

theorem execRxFeed_bodyByte {b : Byte} {s : State} (hs : s.rxState = awaitingBody) (hlen : s.frameLen ≤ maxPayload)
    (hexp : s.rxExp.toNat = 3 + s.frameLen + 2) (hcnt : s.rxCnt.toNat ≤ s.frameLen) :
    execRxFeed b s = .next (countByte (bodyTaken b (s.setFrameValid false))) := by
  have hcell : bodyIndex (s.setFrameValid false) < fbSize := by
    unfold maxPayload at hlen; change 4 + s.rxCnt.toNat < 256; omega
  have hgoes : ¬ completesFrame (s.setFrameValid false) = true := fun h => by
    have hlast : 3 + (s.rxCnt.toNat + 1) = s.rxExp.toNat := completesFrame_iff.mp h
    omega
  rw [execRxFeed_awaitingBody hs, rxFeedBody_eq, if_pos hcell, if_neg hgoes]

theorem execRxFeed_lastBodyByte {b : Byte} {s : State} (hs : s.rxState = awaitingBody) (hlen : s.frameLen ≤ maxPayload)
    (hexp : s.rxExp.toNat = 3 + s.frameLen + 2) (hcnt : s.rxCnt.toNat = s.frameLen + 1) :
    execRxFeed b s = .next (endFrame (s.fb.read lengthIndex) (bodyTaken b (s.setFrameValid false))) := by
  have hcell : bodyIndex (s.setFrameValid false) < fbSize := by
    unfold maxPayload at hlen; change 4 + s.rxCnt.toNat < 256; omega
  have hlast : completesFrame (s.setFrameValid false) = true :=
    completesFrame_iff.mpr (show 3 + (s.rxCnt.toNat + 1) = s.rxExp.toNat by omega)
  have hhi : crcHiIndex ((s.setFrameValid false).fb.read lengthIndex).toNat < fbSize := crcHiIndex_lt_fbSize hlen
  rw [execRxFeed_awaitingBody hs, rxFeedBody_eq, if_pos hcell, if_pos hlast, rxComplete_eq, if_pos hhi]
  rfl

/-- The last byte of a frame is its high checksum byte; the low one is already in the buffer (R126). -/
theorem checksumVerifies_bodyTaken {b : Byte} {s : State} (hcnt : s.rxCnt.toNat = s.frameLen + 1) :
    checksumVerifies (s.fb.read lengthIndex) (bodyTaken b s) = (leHalf (s.fb.read (crcLoIndex s.frameLen)) b == s.rxCrc) := by
  have hcell : bodyIndex s = crcHiIndex s.frameLen := by unfold bodyIndex crcHiIndex; omega
  have hfold : ¬ s.rxCnt < s.fb.read lengthIndex := fun h => by
    have hlt : s.rxCnt.toNat < s.frameLen := h
    omega
  have hne : crcLoIndex s.frameLen ≠ crcHiIndex s.frameLen := by unfold crcLoIndex crcHiIndex; omega
  change (leHalf ((s.fb.write (bodyIndex s) b).read (crcLoIndex s.frameLen))
    ((s.fb.write (bodyIndex s) b).read (crcHiIndex s.frameLen)) ==
      if s.rxCnt < s.fb.read lengthIndex then crcStep s.rxCrc b else s.rxCrc) = _
  rw [hcell, Memory.read_write, Memory.read_write, if_neg hne, if_pos rfl, if_neg hfold]

/-- The length byte as the DATA of a response (R80, R126). -/
theorem zext16_read_length (s : State) : zext16 (s.fb.read lengthIndex) = BitVec.ofNat 16 s.frameLen :=
  (BitVec.ofNat_toNat 16 _).symm

/-- Settles O27, by `rxFeedStart_eq_beginFrame`. -/
theorem rxFeedAwaitingStart : Obligations.RxFeedAwaitingStart := fun b _ hs =>
  (execRxFeed_awaitingStart hs).trans (rxFeedStart_eq_beginFrame b _)

/-- Settles O28, by `execRxFeed_illegalLength`. -/
theorem rxFeedIllegalLength : Obligations.RxFeedIllegalLength := fun _ _ hs hcnt hb =>
  execRxFeed_illegalLength hs hcnt hb

/-- Settles O29, by `execRxFeed_headerByte` and `execRxFeed_lastHeaderByte`. -/
theorem rxFeedAwaitingHeader : Obligations.RxFeedAwaitingHeader := by
  refine ⟨fun b s hs hcnt hb => execRxFeed_headerByte hs hcnt hb, fun b s hs hcnt hlen => ?_⟩
  have hcell : headerIndex (s.setFrameValid false) = 3 := by
    change 1 + s.rxCnt.toNat = 3; rw [hcnt]; rfl
  have hfl : (headerTaken b (s.setFrameValid false)).frameLen = s.frameLen := frameLen_headerTaken_of_last hcnt
  have hfeed : execRxFeed b s = _ := execRxFeed_lastHeaderByte hs hcnt hlen
  rw [beginBody, hfl, headerTaken, hcell] at hfeed
  exact hfeed

/-- Settles O30: a counted byte by `execRxFeed_bodyByte`, the last by `execRxFeed_lastBodyByte`, the covered bytes by the
invariant. -/
theorem rxFeedAwaitingBody : Obligations.RxFeedAwaitingBody := by
  refine ⟨fun b s hs hlen hexp hcnt => execRxFeed_bodyByte hs hlen hexp hcnt, fun b s hs hlen hexp hcnt => ?_,
    fun s hinv hs hcnt => ?_⟩
  · have hcell : bodyIndex (s.setFrameValid false) = 5 + s.frameLen := by
      change 4 + s.rxCnt.toNat = _; omega
    have hfold : ¬ s.rxCnt < s.fb.read lengthIndex := fun h => by
      have hlt : s.rxCnt.toNat < s.frameLen := h
      omega
    have htaken : bodyTaken b (s.setFrameValid false) =
        (s.setFrameValid false).setFb (s.fb.write (5 + s.frameLen) b) := by
      rw [bodyTaken, hcell]
      exact congrArg _ (if_neg hfold)
    have hverdict : checksumVerifies (s.fb.read lengthIndex) (bodyTaken b (s.setFrameValid false)) =
      (leHalf (s.fb.read (4 + s.frameLen)) b == s.rxCrc) := checksumVerifies_bodyTaken hcnt
    have hfeed : execRxFeed b s = _ := execRxFeed_lastBodyByte hs hlen hexp hcnt
    rw [endFrame, hverdict, htaken, acceptFrame, zext16_read_length] at hfeed
    simp only [beq_iff_eq] at hfeed
    exact hfeed
  · obtain ⟨-, -, -, -, hcrc⟩ := hinv.body hs
    rw [min_eq_right (by omega)] at hcrc
    exact hcrc

/-! What every feed that is answered has in common. -/

theorem FeedAnswer.responses {b : Byte} {s t : State} (h : FeedAnswer b s t) :
    t.responses = s.responses ++ [0x10000000] ∨
      t.responses = s.responses ++ [responseWord .frameReady (BitVec.ofNat 16 t.frameLen)] ∨
      t.responses = s.responses ++ [0x12000000] := by
  cases h with
  | noise | marker | illegalLength | headerByte | lastHeaderByte | bodyByte => exact .inl rfl
  | accepted =>
    have hlen : (acceptFrame (s.fb.read lengthIndex) (bodyTaken b s)).frameLen = s.frameLen := frameLen_bodyTaken b s
    refine .inr (.inl ?_)
    rw [hlen, ← zext16_read_length]
    rfl
  | rejected => exact .inr (.inr rfl)

/-- Settles O31: a feed is answered by `BlockInv.execRxFeed`, in one of three ways by `FeedAnswer.responses`. -/
theorem rxFeedAlwaysCompletes : Obligations.RxFeedAlwaysCompletes := by
  intro b s hinv
  obtain ⟨t, ht, -⟩ := hinv.execRxFeed b
  have hanswer := (FeedAnswer.of_execRxFeed ht).responses
  exact ⟨t, ht, hanswer⟩

/-- A feed writes its byte to the cell `rxFeedStores` names, or nothing where it names none. -/
theorem FeedAnswer.fb_eq_rxFeedStores {b : Byte} {s t : State} (h : FeedAnswer b s t) :
    t.fb = (rxFeedStores b s).elim s.fb (s.fb.write · b) := by
  cases h with
  | noise hs hb => rw [rxFeedStores, if_pos hs, if_neg hb]; rfl
  | marker hs hb => rw [(rxFeedStores_awaitingStart hs).mpr ⟨hb, rfl⟩]; rfl
  | illegalLength hs hb =>
    rw [rxFeedStores, if_neg (hs ▸ awaitingHeader_ne_awaitingStart), if_pos hs, if_pos hb]; rfl
  | headerByte hs hb => rw [(rxFeedStores_awaitingHeader hs).mpr ⟨hb, rfl⟩]; rfl
  | lastHeaderByte hs _ hcnt =>
    have hb : Machine.illegalLength b s = false := illegalLength_of_ne_zero (by rw [hcnt]; decide)
    rw [(rxFeedStores_awaitingHeader hs).mpr ⟨hb, rfl⟩]; rfl
  | bodyByte hs | accepted hs | rejected hs => rw [(rxFeedStores_awaitingBody hs).mpr rfl]; rfl

/-- Settles O33: the registers by `exec_writes_own_unit`, the buffer by `FeedAnswer.fb_eq_rxFeedStores`. -/
theorem rxFeedFrame : Obligations.RxFeedFrame := by
  intro b s t h
  obtain ⟨st, d, -, ht⟩ := exec_writes_own_unit h
  have keeps {α : Type} (g : State → α) (hg : g ((s.withRxOf t).respond st d) = g s) : g t = g s :=
    (congrArg g ht).trans hg
  have hfb : t.fb = (rxFeedStores b s).elim s.fb (s.fb.write · b) := (FeedAnswer.of_execRxFeed h).fb_eq_rxFeedStores
  refine ⟨keeps State.crcAcc rfl, keeps State.config rfl, keeps State.commands rfl, keeps State.transportBound rfl,
    keeps State.allocAnswers rfl, keeps State.allocCalls rfl, keeps State.payload rfl, keeps State.txStream rfl,
    ⟨responseWord st d, congrArg State.responses ht⟩, fun a ha => ?_, fun a ha => ?_⟩
  · rw [hfb, ha, Option.elim_some, Memory.read_write, if_pos rfl]
  · cases hstores : rxFeedStores b s with
    | none => rw [hfb, hstores, Option.elim_none]
    | some a' =>
      have hne : a ≠ a' := fun he => ha (he ▸ hstores)
      rw [hfb, hstores, Option.elim_some, Memory.read_write, if_neg hne]

/-- Settles O36, by what a command can do to the RX unit. -/
theorem onlyFeedAndResetMoveTheRxUnit : Obligations.OnlyFeedAndResetMoveTheRxUnit := by
  refine ⟨fun i s t h hfeed hreset => (exec_keeps_rx h hfeed hreset).1, fun i s t h hfeed => ?_⟩
  obtain ⟨b, rfl, -⟩ | ⟨-, hreset⟩ | ⟨-, -, hrx, -⟩ := exec_eq_next h
  · exact absurd rfl (hfeed b)
  · cases hreset
    rfl
  · exact (congrArg State.fb hrx).symm

/-- Settles O37: each answer of a feed inside a frame either ends it for its stated reason or moves it on. -/
theorem onlyTheseBytesEndAFrame : Obligations.OnlyTheseBytesEndAFrame := by
  intro b s t hinv hframe h
  have hclear := hinv.clearValid
  cases FeedAnswer.of_execRxFeed h with
  | noise hs | marker hs => exact absurd hs hframe
  | illegalLength hs hb =>
    obtain ⟨hcnt, hlen⟩ := illegalLength_iff.mp hb
    exact ⟨fun _ => .inl ⟨hs, hcnt, hlen⟩, fun hne => absurd rfl hne⟩
  | headerByte hs _ _ hcnt =>
    obtain ⟨hle, -, -, -⟩ := hinv.header hs
    have hlt : s.rxCnt.toNat < 2 := by
      have hne : s.rxCnt ≠ 2 := hcnt
      bv_omega
    exact ⟨fun hstart => absurd (hs.symm.trans hstart) awaitingHeader_ne_awaitingStart,
      fun _ => .inl ⟨hs, hlt, hs, rfl⟩⟩
  | lastHeaderByte hs _ hcnt =>
    exact ⟨fun hstart => absurd hstart awaitingBody_ne_awaitingStart, fun _ => .inr (.inl ⟨hs, hcnt, rfl, rfl⟩)⟩
  | bodyByte hs _ hc =>
    obtain ⟨-, -, hle, -, -⟩ := hinv.body hs
    have hne : s.rxCnt.toNat ≠ s.frameLen + 1 := fun he =>
      Bool.false_ne_true (hc.symm.trans ((hclear.completesFrame_iff hs).mpr he))
    exact ⟨fun hstart => absurd (hs.symm.trans hstart) awaitingBody_ne_awaitingStart,
      fun _ => .inr (.inr ⟨hs, by omega, hs, rfl⟩)⟩
  | accepted hs _ hc | rejected hs _ hc =>
    exact ⟨fun _ => .inr ⟨hs, (hclear.completesFrame_iff hs).mp hc⟩, fun hne => absurd rfl hne⟩

end Sys2Proof.Machine
end

section
/-! Byte streams fed to the RX unit: what it holds after the start of a frame, after a whole frame and after noise (R130 to
R132): O40 to O42. -/

namespace Sys2Proof.Machine

/-! Streams. -/

theorem feedAll_append (xs ys : List Byte) (s : State) : feedAll (xs ++ ys) s = andThen (feedAll xs s) (feedAll ys) := by
  unfold feedAll
  rw [List.map_append, execAll_append]

theorem feedAll_cons_of_next {b : Byte} {s t : State} (h : execRxFeed b s = .next t) (bytes : List Byte) :
    feedAll (b :: bytes) s = feedAll bytes t :=
  congrArg (andThen · (feedAll bytes)) h

theorem feedAll_append_of_next {xs : List Byte} {s t : State} (h : feedAll xs s = .next t) (ys : List Byte) :
    feedAll (xs ++ ys) s = feedAll ys t := by
  rw [feedAll_append, h, andThen_next]

/-! The start of a frame. -/

/-- A cell that `fbBytes` lists. -/
theorem State.read_of_fbBytes {s : State} {lo n k : Nat} {bytes : List Byte} {b : Byte} (h : s.fbBytes lo n = bytes)
    (hk : bytes[k]? = some b) : s.fb.read (lo + k) = b := by
  subst h
  rw [State.fbBytes, List.getElem?_map] at hk
  obtain ⟨i, hi, hb⟩ := Option.map_eq_some_iff.mp hk
  obtain ⟨_, hi⟩ := List.getElem?_eq_some_iff.mp hi
  rw [List.getElem_range] at hi
  rw [hi, hb]

/-- Since `s` the unit has taken the start marker and `bytes`: each was answered `INCOMPLETE`, and `bytes` are in the buffer
from the length byte on. -/
structure Received (s u : State) (bytes : List Byte) : Prop where
  frameValid : u.frameValid = false
  config : u.config = s.config
  cells : u.fbBytes lengthIndex bytes.length = bytes
  responses : u.responses = s.responses ++ List.replicate (bytes.length + 1) incompleteWord

/-- The unit is inside the header: it has taken the start marker and the header bytes `header` since `s` (R124). -/
structure ReceivingHeader (s u : State) (header : List Byte) : Prop extends Received s u header where
  rxState : u.rxState = awaitingHeader
  rxCnt : u.rxCnt.toNat = header.length
  rxCrc : u.rxCrc = crc16 header

/-- The unit is inside the body: it has taken the start marker, a header and the body bytes `body` since `s`, of which the
payload bytes are folded (R126, R127). -/
structure ReceivingBody (s u : State) (n comp msg : Byte) (body : List Byte) : Prop
    extends Received s u (n :: comp :: msg :: body) where
  rxState : u.rxState = awaitingBody
  rxCnt : u.rxCnt.toNat = body.length
  rxExp : u.rxExp.toNat = 3 + n.toNat + 2
  rxCrc : u.rxCrc = crc16 (n :: comp :: msg :: body.take n.toNat)

/-- One byte more, written to the next cell. -/
theorem Received.next {s u v : State} {bytes : List Byte} {b : Byte} (h : Received s u bytes)
    (hfb : v.fb = u.fb.write (lengthIndex + bytes.length) b) (hv : v.frameValid = false) (hcfg : v.config = u.config)
    (hr : v.responses = u.responses ++ [incompleteWord]) : Received s v (bytes ++ [b]) where
  frameValid := hv
  config := hcfg.trans h.config
  cells := by rw [List.length_append, List.length_singleton, State.fbBytes_write_next hfb, h.cells]
  responses := by
    rw [List.length_append, List.length_singleton, List.replicate_succ', ← List.append_assoc, ← h.responses, hr]

theorem ReceivingHeader.of_marker (s : State) :
    ReceivingHeader s (beginFrame s.config.startMarker (s.setFrameValid false)) [] :=
  ⟨⟨rfl, rfl, rfl, rfl⟩, rfl, rfl, rfl⟩

/-- What a header byte is written to and folded into. -/
theorem ReceivingHeader.headerIndex_eq {s u : State} {header : List Byte} (h : ReceivingHeader s u header) :
    headerIndex u = lengthIndex + header.length :=
  congrArg (1 + ·) h.rxCnt

theorem ReceivingHeader.crcStep_eq {s u : State} {header : List Byte} (h : ReceivingHeader s u header) (b : Byte) :
    crcStep u.rxCrc b = crc16 (header ++ [b]) := by
  rw [h.rxCrc, crc16_concat]

/-- A header byte before the third. -/
theorem ReceivingHeader.feed {s u : State} {header : List Byte} {b : Byte} (h : ReceivingHeader s u header)
    (hlt : header.length < 2) (hb : header = [] → b.toNat ≤ maxPayload) :
    ∃ v, execRxFeed b u = .next v ∧ ReceivingHeader s v (header ++ [b]) := by
  have hcnt := h.rxCnt
  refine ⟨_, execRxFeed_headerByte h.rxState (by omega) fun h0 => hb ?_, ?_, h.rxState, ?_, h.crcStep_eq b⟩
  · exact List.length_eq_zero_iff.mp (by rw [← hcnt, h0]; rfl)
  · exact h.toReceived.next (congrArg (u.fb.write · b) h.headerIndex_eq) rfl rfl rfl
  · change (u.rxCnt + 1).toNat = _
    rw [List.length_append, List.length_singleton]
    bv_omega

/-- The third header byte. -/
theorem ReceivingHeader.feed_last {s u : State} {n comp msg : Byte} (h : ReceivingHeader s u [n, comp])
    (hn : n.toNat ≤ maxPayload) : ∃ v, execRxFeed msg u = .next v ∧ ReceivingBody s v n comp msg [] := by
  have hcnt : u.rxCnt = 2 := BitVec.eq_of_toNat_eq h.rxCnt
  have hlen : u.frameLen = n.toNat := congrArg BitVec.toNat (State.read_of_fbBytes (k := 0) h.cells rfl)
  have hfl : (headerTaken msg (u.setFrameValid false)).frameLen = n.toNat :=
    (frameLen_headerTaken_of_last hcnt).trans hlen
  refine ⟨_, execRxFeed_lastHeaderByte h.rxState hcnt (hlen.trans_le hn), ?_, rfl, rfl, ?_, ?_⟩
  · exact h.toReceived.next (congrArg (u.fb.write · msg) h.headerIndex_eq) rfl rfl rfl
  · change (BitVec.ofNat 8 (3 + (headerTaken msg (u.setFrameValid false)).frameLen + 2)).toNat = _
    unfold maxPayload at hn
    rw [hfl, BitVec.toNat_ofNat]
    omega
  · rw [List.take_nil]
    exact h.crcStep_eq msg

theorem ReceivingBody.read_length {s u : State} {n comp msg : Byte} {body : List Byte}
    (h : ReceivingBody s u n comp msg body) : u.fb.read lengthIndex = n :=
  State.read_of_fbBytes (k := 0) h.cells rfl

theorem ReceivingBody.frameLen {s u : State} {n comp msg : Byte} {body : List Byte}
    (h : ReceivingBody s u n comp msg body) : u.frameLen = n.toNat :=
  congrArg BitVec.toNat h.read_length

theorem ReceivingBody.bodyIndex_eq {s u : State} {n comp msg : Byte} {body : List Byte}
    (h : ReceivingBody s u n comp msg body) : bodyIndex u = lengthIndex + (n :: comp :: msg :: body).length := by
  have hcnt := h.rxCnt
  simp only [List.length_cons]
  unfold bodyIndex headerSize lengthIndex
  omega

/-- Only the payload is folded: one byte more while it lasts, and none after it (R127). -/
theorem ReceivingBody.fold_eq {s u : State} {n comp msg : Byte} {body : List Byte}
    (h : ReceivingBody s u n comp msg body) (b : Byte) :
    (bodyTaken b u).rxCrc = crc16 (n :: comp :: msg :: (body ++ [b]).take n.toNat) := by
  have hcnt := h.rxCnt
  change (if u.rxCnt < u.fb.read lengthIndex then crcStep u.rxCrc b else u.rxCrc) = _
  rw [h.read_length, h.rxCrc]
  split
  · rename_i hlt
    have hlt : u.rxCnt.toNat < n.toNat := hlt
    rw [List.take_of_length_le (by omega), List.take_of_length_le (by simp; omega), ← crc16_concat]
    rfl
  · rename_i hge
    have hge : n.toNat ≤ u.rxCnt.toNat := Nat.le_of_not_lt hge
    rw [List.take_append_of_le_length (by omega)]

/-- A body byte before the last. -/
theorem ReceivingBody.feed {s u : State} {n comp msg b : Byte} {body : List Byte}
    (h : ReceivingBody s u n comp msg body) (hn : n.toNat ≤ maxPayload) (hlt : body.length ≤ n.toNat) :
    ∃ v, execRxFeed b u = .next v ∧ ReceivingBody s v n comp msg (body ++ [b]) := by
  have hlen := h.frameLen
  have hcnt := h.rxCnt
  refine ⟨_, execRxFeed_bodyByte h.rxState (hlen.trans_le hn) (by rw [h.rxExp, hlen]) (by omega), ?_, h.rxState, ?_,
    h.rxExp, h.fold_eq b⟩
  · exact h.toReceived.next (congrArg (u.fb.write · b) h.bodyIndex_eq) rfl rfl rfl
  · change (u.rxCnt + 1).toNat = _
    unfold maxPayload at hn
    rw [List.length_append, List.length_singleton]
    bv_omega

theorem ReceivingBody.feedAll {s u : State} {n comp msg : Byte} {body : List Byte}
    (h : ReceivingBody s u n comp msg body) (hn : n.toNat ≤ maxPayload) (bytes : List Byte)
    (hlt : body.length + bytes.length ≤ n.toNat + 1) :
    ∃ v, feedAll bytes u = .next v ∧ ReceivingBody s v n comp msg (body ++ bytes) := by
  induction bytes generalizing u body with
  | nil => exact ⟨u, rfl, by rwa [List.append_nil]⟩
  | cons b bytes ih =>
    rw [List.length_cons] at hlt
    obtain ⟨v, hv, hbody⟩ := h.feed (b := b) hn (by omega)
    obtain ⟨w, hw, hbody⟩ := ih hbody (by rw [List.length_append, List.length_singleton]; omega)
    exact ⟨w, (feedAll_cons_of_next hv bytes).trans hw, by rwa [List.append_cons]⟩

/-- The start of a frame with a legal length, fed from AwaitingStart: all of the frame but its last byte, or less (R130). -/
theorem feedAll_frameStart {s : State} {n : Byte} (comp msg : Byte) {body : List Byte} (hs : s.rxState = awaitingStart)
    (hn : n.toNat ≤ maxPayload) (hlt : body.length ≤ n.toNat + 1) :
    ∃ u, feedAll (s.config.startMarker :: n :: comp :: msg :: body) s = .next u ∧ ReceivingBody s u n comp msg body := by
  obtain ⟨u₁, h₁, hlen⟩ := (ReceivingHeader.of_marker s).feed (b := n) Nat.zero_lt_two fun _ => hn
  obtain ⟨u₂, h₂, hcomp⟩ := hlen.feed (b := comp) Nat.one_lt_two nofun
  obtain ⟨u₃, h₃, hmsg⟩ := hcomp.feed_last (msg := msg) hn
  obtain ⟨u, hu, hbody⟩ := hmsg.feedAll hn body (by rw [List.length_nil]; omega)
  refine ⟨u, ?_, hbody⟩
  rw [feedAll_cons_of_next (execRxFeed_marker hs), feedAll_cons_of_next h₁, feedAll_cons_of_next h₂,
    feedAll_cons_of_next h₃, hu]

/-! A whole frame. -/

/-- The answer to the last byte of a frame that ends with these two checksum bytes (R126). -/
def frameVerdict (comp msg : Byte) (payload : List Byte) (lo hi : Byte) : Word :=
  if leHalf lo hi = frameCrc comp msg payload then responseWord .frameReady (BitVec.ofNat 16 payload.length)
  else responseWord .checksumMismatch 0

/-- Since `s` the unit has taken a frame with these two checksum bytes, and awaits the next one. -/
structure FrameReceived (s v : State) (comp msg : Byte) (payload : List Byte) (lo hi : Byte) : Prop where
  rxState : v.rxState = awaitingStart
  config : v.config = s.config
  frameValid : v.frameValid = (leHalf lo hi == frameCrc comp msg payload)
  cells : v.fbBytes lengthIndex (payload.length + 5) =
    BitVec.ofNat 8 payload.length :: comp :: msg :: (payload ++ [lo, hi])
  responses : v.responses = s.responses ++ List.replicate (payload.length + 5) incompleteWord ++
    [frameVerdict comp msg payload lo hi]

theorem toNat_ofNat_length {payload : List Byte} (h : payload.length ≤ maxPayload) :
    (BitVec.ofNat 8 payload.length).toNat = payload.length := by
  unfold maxPayload at h
  rw [BitVec.toNat_ofNat]
  omega

section LastByte
variable {s u : State} {n comp msg lo : Byte} {payload : List Byte}
  (h : ReceivingBody s u n comp msg (payload ++ [lo]))
include h

/-- The whole frame is in the buffer. -/
theorem ReceivingBody.cells_last {v : State} {hi : Byte} (hfb : v.fb = u.fb.write (bodyIndex u) hi) :
    v.fbBytes lengthIndex (payload.length + 5) = n :: comp :: msg :: (payload ++ [lo, hi]) := by
  rw [h.bodyIndex_eq] at hfb
  have hcells := State.fbBytes_write_next hfb
  rw [h.cells] at hcells
  simpa using hcells

variable (hn : n.toNat = payload.length)
include hn

/-- The low checksum byte is in the buffer, and the payload is folded whole. -/
theorem ReceivingBody.checksumVerifies_last (hi : Byte) :
    checksumVerifies (u.fb.read lengthIndex) (bodyTaken hi (u.setFrameValid false)) =
      (leHalf lo hi == crc16 (n :: comp :: msg :: payload)) := by
  have hfl : u.frameLen = payload.length := h.frameLen.trans hn
  have hcnt : u.rxCnt.toNat = u.frameLen + 1 := by rw [h.rxCnt, hfl, List.length_append, List.length_singleton]
  have hcell : crcLoIndex u.frameLen = lengthIndex + (3 + payload.length) := by
    rw [hfl]; unfold crcLoIndex headerSize lengthIndex; omega
  have hlo : u.fb.read (crcLoIndex u.frameLen) = lo := by
    rw [hcell]
    exact State.read_of_fbBytes h.cells (by simp [Nat.add_comm 3])
  have hcrc : u.rxCrc = crc16 (n :: comp :: msg :: payload) := by rw [h.rxCrc, hn, List.take_left' rfl]
  rw [← hlo, ← hcrc]
  exact checksumVerifies_bodyTaken (s := u.setFrameValid false) hcnt

/-- The last byte ends the frame. -/
theorem ReceivingBody.execRxFeed_last (hmax : n.toNat ≤ maxPayload) (hi : Byte) :
    execRxFeed hi u = .next (endFrame (u.fb.read lengthIndex) (bodyTaken hi (u.setFrameValid false))) := by
  have hfl := h.frameLen
  have hcnt : u.rxCnt.toNat = u.frameLen + 1 := by rw [h.rxCnt, hfl, hn, List.length_append, List.length_singleton]
  exact execRxFeed_lastBodyByte h.rxState (hfl.trans_le hmax) (by rw [h.rxExp, hfl]) hcnt

end LastByte

/-- The byte that completes a frame (R126). -/
theorem ReceivingBody.feed_last {s u : State} {comp msg lo hi : Byte} {payload : List Byte}
    (hlen : payload.length ≤ maxPayload)
    (h : ReceivingBody s u (BitVec.ofNat 8 payload.length) comp msg (payload ++ [lo])) :
    ∃ v, execRxFeed hi u = .next v ∧ FrameReceived s v comp msg payload lo hi := by
  have hn : (BitVec.ofNat 8 payload.length).toNat = payload.length := toNat_ofNat_length hlen
  have hfeed := h.execRxFeed_last hn (hn.trans_le hlen) hi
  have hverdict : checksumVerifies (u.fb.read lengthIndex) (bodyTaken hi (u.setFrameValid false)) =
      (leHalf lo hi == frameCrc comp msg payload) := h.checksumVerifies_last hn hi
  have hbefore : u.responses = s.responses ++ List.replicate (payload.length + 5) incompleteWord := by
    rw [h.responses]; simp
  rw [endFrame, hverdict] at hfeed
  refine ⟨_, hfeed, ?_⟩
  by_cases hm : leHalf lo hi = frameCrc comp msg payload
  · have hword : frameVerdict comp msg payload lo hi = responseWord .frameReady (zext16 (u.fb.read lengthIndex)) := by
      rw [frameVerdict, if_pos hm, zext16_read_length, h.frameLen, hn]
    rw [if_pos (beq_iff_eq.mpr hm)]
    exact ⟨rfl, h.config, (beq_iff_eq.mpr hm).symm, h.cells_last rfl, by rw [hword, ← hbefore]; rfl⟩
  · rw [if_neg (mt beq_iff_eq.mp hm)]
    exact ⟨rfl, h.config, (beq_eq_false_iff_ne.mpr hm).symm, h.cells_last rfl,
      by rw [frameVerdict, if_neg hm, ← hbefore]; rfl⟩

/-- A frame with whatever checksum, fed from AwaitingStart (R130). -/
theorem feedAll_frame {s : State} (comp msg lo hi : Byte) {payload : List Byte} (hs : s.rxState = awaitingStart)
    (hlen : payload.length ≤ maxPayload) :
    ∃ v, feedAll (wireBody s.config.startMarker comp msg payload ++ [lo, hi]) s = .next v ∧
      FrameReceived s v comp msg payload lo hi := by
  have hn : (BitVec.ofNat 8 payload.length).toNat = payload.length := toNat_ofNat_length hlen
  obtain ⟨u, hu, hbody⟩ := feedAll_frameStart comp msg (body := payload ++ [lo]) hs (hn.trans_le hlen)
    (by rw [List.length_append, List.length_singleton, hn])
  obtain ⟨v, hv, hframe⟩ := hbody.feed_last (hi := hi) hlen
  have hu : feedAll (wireBody s.config.startMarker comp msg payload ++ [lo]) s = .next u := hu
  refine ⟨v, ?_, hframe⟩
  rw [List.append_cons, feedAll_append_of_next hu, feedAll_cons_of_next hv]
  rfl

/-- The well-formed frame is accepted (R130). -/
theorem feedAll_wireFrame {s : State} (comp msg : Byte) {payload : List Byte} (hs : s.rxState = awaitingStart)
    (hlen : payload.length ≤ maxPayload) :
    ∃ v, feedAll (wireFrame s.config.startMarker comp msg payload) s = .next v ∧
      FrameReceived s v comp msg payload (loByte (frameCrc comp msg payload)) (hiByte (frameCrc comp msg payload)) :=
  feedAll_frame comp msg _ _ hs hlen

theorem frameVerdict_of_eq {comp msg lo hi : Byte} {payload : List Byte} (h : leHalf lo hi = frameCrc comp msg payload) :
    frameVerdict comp msg payload lo hi = responseWord .frameReady (BitVec.ofNat 16 payload.length) := if_pos h

theorem frameVerdict_of_ne {comp msg lo hi : Byte} {payload : List Byte} (h : leHalf lo hi ≠ frameCrc comp msg payload) :
    frameVerdict comp msg payload lo hi = 0x12000000 := if_neg h

/-- Settles O40, by `feedAll_frame` and the verdict on the checksum it ends with. -/
theorem frameTiming : Obligations.FrameTiming := by
  intro comp msg payload s hs hlen
  refine ⟨?_, fun lo hi hne => ?_⟩
  · obtain ⟨v, hv, hframe⟩ := feedAll_wireFrame comp msg hs hlen
    have hr := hframe.responses
    rw [frameVerdict_of_eq (leHalf_loByte_hiByte _)] at hr
    exact ⟨v, hv, hr, hframe.frameValid.trans (by simp), hframe.rxState⟩
  · obtain ⟨v, hv, hframe⟩ := feedAll_frame comp msg lo hi hs hlen
    have hr := hframe.responses
    rw [frameVerdict_of_ne hne] at hr
    exact ⟨v, hv, hr, hframe.frameValid.trans (beq_eq_false_iff_ne.mpr hne), hframe.rxState⟩

/-! Noise. -/

/-- Settles O41, by induction on the bytes. -/
theorem noiseChangesNothing : Obligations.NoiseChangesNothing := by
  intro bytes
  induction bytes with
  | nil => intro s _ _; rw [List.length_nil, List.replicate_zero, List.append_nil]; rfl
  | cons b bytes ih =>
    intro s hs hnoise
    obtain ⟨hb, hnoise⟩ := List.forall_mem_cons.mp hnoise
    rw [feedAll_cons_of_next (execRxFeed_noise hs hb), ih ((s.setFrameValid false).respond .incomplete 0) hs hnoise,
      List.length_cons, List.replicate_succ, List.append_cons, if_neg (List.cons_ne_nil b bytes)]
    change Host.Outcome.next { s with frameValid := if bytes = [] then false else false, responses := _ } = _
    rw [ite_self]
    rfl

/-- Settles O42: after a frame, and after noise, the unit awaits the start of the next. -/
theorem backToBackFrames : Obligations.BackToBackFrames := by
  intro c₁ m₁ c₂ m₂ lo hi p₁ p₂ noise s hs hlen₁ hlen₂ hnoise
  obtain ⟨u, hu, hfirst⟩ := feedAll_frame c₁ m₁ lo hi hs hlen₁
  have hquiet := noiseChangesNothing noise u hfirst.rxState (by rwa [hfirst.config])
  obtain ⟨v, hv, hsecond⟩ := feedAll_wireFrame c₂ m₂
    (s := { u with frameValid := if noise = [] then u.frameValid else false
                   responses := u.responses ++ List.replicate noise.length 0x10000000 }) hfirst.rxState hlen₂
  have hr := hsecond.responses
  change v.responses = u.responses ++ List.replicate noise.length incompleteWord ++ _ ++ _ at hr
  rw [hfirst.responses, frameVerdict_of_eq (leHalf_loByte_hiByte _),
    List.append_assoc _ (List.replicate noise.length incompleteWord), List.replicate_append_replicate,
    ← Nat.add_assoc] at hr
  refine ⟨v, ?_, hr⟩
  rw [List.append_assoc, feedAll_append_of_next hu, feedAll_append_of_next hquiet, ← hfirst.config]
  exact hv

end Sys2Proof.Machine
end

section
/-! Frames with one bit flipped on the wire (R134): O43 and O44. -/

namespace Sys2Proof.Machine

/-! The parts of a byte sequence. -/

theorem exists_eq_append_pair {bytes : List Byte} {n : Nat} (h : bytes.length = n + 2) :
    ∃ p lo hi, bytes = p ++ [lo, hi] ∧ p.length = n := by
  obtain ⟨lo, hi, htail⟩ := List.length_eq_two.mp (show (bytes.drop n).length = 2 by rw [List.length_drop]; omega)
  refine ⟨bytes.take n, lo, hi, ?_, by rw [List.length_take]; omega⟩
  rw [← htail, List.take_append_drop]

/-- What follows the length byte of a frame: the ids, a payload and the checksum. -/
theorem exists_frame_parts {bytes : List Byte} {n : Nat} (h : bytes.length = n + 4) :
    ∃ comp msg p lo hi, bytes = comp :: msg :: (p ++ [lo, hi]) ∧ p.length = n := by
  match bytes, h with
  | comp :: msg :: bytes, h =>
    obtain ⟨p, lo, hi, rfl, hp⟩ := exists_eq_append_pair (n := n) (Nat.add_right_cancel (m := 2) h)
    exact ⟨comp, msg, p, lo, hi, rfl, hp⟩

theorem wireFrame_eq (marker comp msg : Byte) (payload : List Byte) : wireFrame marker comp msg payload =
    marker :: BitVec.ofNat 8 payload.length :: comp :: msg ::
      (payload ++ [loByte (frameCrc comp msg payload), hiByte (frameCrc comp msg payload)]) := rfl

@[simp] theorem length_flipAt (bytes : List Byte) (pos bit : Nat) : (flipAt bytes pos bit).length = bytes.length :=
  List.length_modify ..

theorem flipAt_zero (b : Byte) (bytes : List Byte) (bit : Nat) : flipAt (b :: bytes) 0 bit = flipBit b bit :: bytes := rfl

theorem flipAt_succ (b : Byte) (bytes : List Byte) (pos bit : Nat) :
    flipAt (b :: bytes) (pos + 1) bit = b :: flipAt bytes pos bit := rfl

/-- A flipped bit after the length byte leaves a checksum that does not verify: the bytes from the length on had residue
zero, and do not have it any more (R108, R109). -/
theorem leHalf_ne_frameCrc_of_flipAt {comp msg comp' msg' lo hi : Byte} {p p' : List Byte} {pos bit : Nat}
    (hlen : p'.length = p.length) (hpos : pos < p.length + 4) (hbit : bit < 8)
    (h : flipAt (comp :: msg :: (p ++ [loByte (frameCrc comp msg p), hiByte (frameCrc comp msg p)])) pos bit =
      comp' :: msg' :: (p' ++ [lo, hi])) : leHalf lo hi ≠ frameCrc comp' msg' p' := by
  have hsent := crc16_append_checksum (BitVec.ofNat 8 p.length :: comp :: msg :: p)
  have hflip := crc16Update_flipAt_ne (pos := pos)
    (bytes := comp :: msg :: (p ++ [loByte (frameCrc comp msg p), hiByte (frameCrc comp msg p)]))
    (crcStep crcInit (BitVec.ofNat 8 p.length)) (by simp; omega) hbit
  rw [h] at hflip
  intro hverdict
  have hgot := (crc16_append_eq_zero_iff (BitVec.ofNat 8 p'.length :: comp' :: msg' :: p') lo hi).mpr hverdict
  rw [hlen] at hgot
  exact hflip (hgot.trans hsent.symm)

/-- Settles O43: the flipped frame is a frame whose checksum does not verify. -/
theorem singleBitErrorIsDetected : Obligations.SingleBitErrorIsDetected := by
  intro comp msg payload pos bit s hs hlen hlo hhi hbit
  obtain ⟨pos, rfl⟩ := Nat.exists_eq_add_of_le' hlo
  obtain ⟨comp', msg', p', lo, hi, hparts, hp⟩ := exists_frame_parts (n := payload.length)
    (bytes := flipAt (comp :: msg :: (payload ++ [loByte (frameCrc comp msg payload), hiByte (frameCrc comp msg payload)]))
      pos bit) (by simp)
  have hne := leHalf_ne_frameCrc_of_flipAt hp (by omega) hbit hparts
  have hflipped : flipAt (wireFrame s.config.startMarker comp msg payload) (pos + 2) bit =
      wireBody s.config.startMarker comp' msg' p' ++ [lo, hi] := by
    rw [wireFrame_eq, flipAt_succ, flipAt_succ, hparts, ← hp]
    rfl
  obtain ⟨v, hv, hframe⟩ := feedAll_frame comp' msg' lo hi hs (hp.trans_le hlen)
  have hr := hframe.responses
  rw [frameVerdict_of_ne hne, hp] at hr
  exact ⟨v, by rw [hflipped, hv], hr, hframe.frameValid.trans (beq_eq_false_iff_ne.mpr hne), hframe.rxState⟩

/-- A marker and an illegal length leave the unit in AwaitingStart (R123). -/
theorem feedAll_illegalLength {s : State} {n : Byte} (hs : s.rxState = awaitingStart) (hn : maxPayload < n.toNat) :
    ∃ t, feedAll [s.config.startMarker, n] s = .next t ∧ t.rxState = awaitingStart ∧
      t.responses = s.responses ++ List.replicate 2 incompleteWord := by
  have hheader := ReceivingHeader.of_marker s
  refine ⟨dropFrame ((beginFrame s.config.startMarker (s.setFrameValid false)).setFrameValid false), ?_, rfl, ?_⟩
  · rw [feedAll_cons_of_next (execRxFeed_marker hs),
      feedAll_cons_of_next (execRxFeed_illegalLength hheader.rxState rfl hn)]
    rfl
  · exact List.append_assoc s.responses [incompleteWord] [incompleteWord]

/-- A length above that of the frame leaves the unit in AwaitingBody after the frame's last byte (R134). -/
theorem feedAll_lengthTooLarge {s : State} {n : Byte} (comp msg lo hi : Byte) {payload : List Byte}
    (hs : s.rxState = awaitingStart) (hmore : payload.length < n.toNat) (hn : n.toNat ≤ maxPayload) :
    ∃ t, feedAll (s.config.startMarker :: n :: comp :: msg :: (payload ++ [lo, hi])) s = .next t ∧
      t.rxState = awaitingBody ∧ t.responses = s.responses ++ List.replicate (payload.length + 6) incompleteWord := by
  obtain ⟨u, hu, hbody⟩ := feedAll_frameStart comp msg (body := payload ++ [lo, hi]) hs hn (by simp; omega)
  exact ⟨u, hu, hbody.rxState, hbody.responses.trans (by simp)⟩

/-- A length below that of the frame makes a part of the frame complete, with either verdict (R134). -/
theorem feedAll_lengthTooSmall {s : State} {n : Byte} (comp msg lo hi : Byte) {payload : List Byte}
    (hs : s.rxState = awaitingStart) (hless : n.toNat < payload.length) (hn : n.toNat ≤ maxPayload) :
    ∃ t, feedAll ((s.config.startMarker :: n :: comp :: msg :: (payload ++ [lo, hi])).take (n.toNat + 6)) s = .next t ∧
      t.rxState = awaitingStart ∧
      ∃ r, t.responses = s.responses ++ List.replicate (n.toNat + 5) incompleteWord ++ [r] ∧
        (r = responseWord .frameReady (BitVec.ofNat 16 n.toNat) ∨ r = 0x12000000) := by
  obtain ⟨p, lo', hi', hbody, hp⟩ := exists_eq_append_pair (bytes := (payload ++ [lo, hi]).take (n.toNat + 2))
    (n := n.toNat) (by simp; omega)
  have hframe : (s.config.startMarker :: n :: comp :: msg :: (payload ++ [lo, hi])).take (n.toNat + 6) =
      wireBody s.config.startMarker comp msg p ++ [lo', hi'] := by
    simp only [List.take_succ_cons, hbody, wireBody, hp, BitVec.ofNat_toNat, BitVec.setWidth_eq, List.cons_append]
  obtain ⟨v, hv, hreceived⟩ := feedAll_frame comp msg lo' hi' hs (hp.trans_le hn)
  have hr := hreceived.responses
  rw [hp] at hr
  refine ⟨v, by rw [hframe, hv], hreceived.rxState, _, hr, ?_⟩
  by_cases hm : leHalf lo' hi' = frameCrc comp msg p
  · exact .inl (by rw [frameVerdict_of_eq hm, hp])
  · exact .inr (frameVerdict_of_ne hm)

/-- Settles O44: a flipped marker is noise; a flipped length is illegal, or begins a frame that the bytes do not complete, or
begins one that a part of them completes. -/
theorem markerOrLengthBitError : Obligations.MarkerOrLengthBitError := by
  intro comp msg payload bit s hs hlen hbit bytes n'
  refine ⟨?_, fun hbig => ?_, fun hmore hlegal => ?_, fun hless => ?_⟩
  · exact ⟨_, feedAll_cons_of_next (execRxFeed_noise hs (flipBit_ne _ hbit)) [], hs, rfl⟩
  · exact feedAll_illegalLength hs hbig
  · exact feedAll_lengthTooLarge comp msg _ _ hs hmore hlegal
  · exact feedAll_lengthTooSmall comp msg _ _ hs hless (hless.le.trans hlen)

end Sys2Proof.Machine
end

section
/-! The frame that `TX_SEND` builds is the wire frame of its operands and its payload (R60, R61, R150), and the RX unit
receives it whole (R135): O45. -/

namespace Sys2Proof.Machine

theorem ofNat_length_eq {payload : List Byte} {n : Byte} (h : payload.length = n.toNat) :
    BitVec.ofNat 8 payload.length = n := by
  rw [h, BitVec.ofNat_toNat, BitVec.setWidth_eq]

/-! What the TX buffer holds as it is filled from its front. -/

/-- The first `n` bytes of the buffer: what `HostEnqueue(n)` hands over (R54). -/
def TxWork.front (w : TxWork) (n : Nat) : List Byte := (List.range n).map w.buf.read

theorem TxWork.front_put (w : TxWork) (n : Nat) (v : Byte) : (w.put n v).front (n + 1) = w.front n ++ [v] := by
  have hbefore : (w.put n v).front n = w.front n := List.map_congr_left fun k hk => by
    change (w.buf.write n v).read k = _
    rw [Memory.read_write, if_neg (List.mem_range.mp hk).ne]
  have hlast : (w.put n v).buf.read n = v := by
    change (w.buf.write n v).read n = v
    rw [Memory.read_write, if_pos rfl]
  rw [← hbefore, TxWork.front, List.range_succ, List.map_append, List.map_singleton, hlast]
  rfl

theorem TxWork.front_fold (w : TxWork) (n : Nat) (v : Byte) : (w.fold v).front n = w.front n := rfl

/-- The header (R150). -/
theorem front_txHeader (marker comp msg len : Byte) :
    (txHeader marker comp msg len).front headerSize = [marker, len, comp, msg] := by
  change ((((({ buf := [], crc := crcInit : TxWork }.put 0 marker).put 1 len).put 2 comp).put 3 msg)).front (3 + 1) = _
  rw [TxWork.front_put, TxWork.front_put, TxWork.front_put, TxWork.front_put]
  rfl

theorem crc_txHeader (marker comp msg len : Byte) : (txHeader marker comp msg len).crc = crc16 [len, comp, msg] := rfl

/-- The payload loop appends the bytes the host supplies to the buffer and folds them (R55, R150). -/
theorem txPayload_of_payload {bytes rest : List Byte} (k : Nat) (w : TxWork) {s : State} (h : s.payload = bytes ++ rest) :
    ∃ w', txPayload bytes.length k w s = .next (w', s.setPayload rest) ∧ w'.crc = crc16Update w.crc bytes ∧
      w'.front (payloadIndex k + bytes.length) = w.front (payloadIndex k) ++ bytes := by
  induction bytes generalizing k w s with
  | nil => exact ⟨w, by rw [← List.nil_append rest, ← h]; rfl, rfl, (List.append_nil _).symm⟩
  | cons b bytes ih =>
    obtain ⟨w', hw', hcrc, hfront⟩ := ih (k + 1) ((w.put (payloadIndex k) b).fold b) (s := s.setPayload (bytes ++ rest)) rfl
    refine ⟨w', ?_, hcrc, ?_⟩
    · rw [List.length_cons, txPayload, State.payloadRead_cons h, andThen_next]
      exact hw'
    · have hnext : payloadIndex (k + 1) = payloadIndex k + 1 := rfl
      rw [hnext, TxWork.front_fold, TxWork.front_put, ← List.append_cons] at hfront
      rw [List.length_cons, ← hfront]
      exact congrArg w'.front (by omega)

/-- The checksum (R42, R150). -/
theorem front_txTail (n : Nat) (w : TxWork) :
    (txTail n w).front (frameSize n) = w.front (headerSize + n) ++ [loByte w.crc, hiByte w.crc] := by
  have hhi : crcHiIndex n = crcLoIndex n + 1 := by unfold crcHiIndex crcLoIndex; omega
  rw [txTail, hhi]
  change ((w.put (crcLoIndex n) (loByte w.crc)).put (crcLoIndex n + 1) (hiByte w.crc)).front (crcLoIndex n + 1 + 1) = _
  rw [TxWork.front_put, TxWork.front_put, List.append_assoc]
  rfl

/-- With its payload supplied, the unit hands the wire frame over, and answers with its checksum (R150, R152). -/
theorem txSerialize_of_payload {comp msg len : Byte} {payload rest : List Byte} {s : State}
    (h : s.payload = payload ++ rest) (hlen : payload.length = len.toNat) :
    ∃ buf, (List.range (frameSize len.toNat)).map buf.read = wireFrame s.config.startMarker comp msg payload ∧
      txSerialize comp msg len s =
        .next (((s.setPayload rest).hostEnqueue buf (frameSize len.toNat)).respond .ok (frameCrc comp msg payload)) := by
  obtain ⟨w, hw, hcrc, hfront⟩ := txPayload_of_payload 0 (txHeader s.config.startMarker comp msg len) h
  have hn : BitVec.ofNat 8 payload.length = len := ofNat_length_eq hlen
  have hcrc : w.crc = frameCrc comp msg payload := by
    rw [hcrc, crc_txHeader, frameCrc, hn]
    rfl
  have hfront : w.front (headerSize + payload.length) = wireBody s.config.startMarker comp msg payload := by
    rw [wireBody, hn]
    exact hfront.trans (congrArg (· ++ payload) (front_txHeader ..))
  rw [hlen] at hw hfront
  refine ⟨(txTail len.toNat w).buf, ?_, ?_⟩
  · have hframe := front_txTail len.toNat w
    rw [hfront, hcrc] at hframe
    exact hframe
  · rw [txSerialize, hw, andThen_next, hcrc]

/-- A `TX_SEND` that enqueues something had a legal length and a granted buffer (R153, R155). -/
theorem execTxSend_of_enqueues {comp msg len : Byte} {s t : State} (h : execTxSend comp msg len s = .next t)
    (ht : t.txStream ≠ s.txStream) :
    len.toNat ≤ maxPayload ∧ txSerialize comp msg len (s.afterAlloc (frameSize len.toNat)) = .next t := by
  unfold execTxSend at h
  split at h
  · cases h; exact absurd rfl ht
  · rename_i hlen
    split at h
    · cases h; exact absurd rfl ht
    · exact ⟨Nat.le_of_not_lt hlen, h⟩

/-- A successful `TX_SEND` enqueues the wire frame of its operands and its payload (R151). -/
theorem enqueued_eq_wireFrame {comp msg len : Byte} {payload rest frame : List Byte} {s t : State}
    (h : execTxSend comp msg len s = .next t) (ht : t.txStream = s.txStream ++ [frame])
    (hp : s.payload = payload ++ rest) (hlen : payload.length = len.toNat) :
    payload.length ≤ maxPayload ∧ frame = wireFrame s.config.startMarker comp msg payload := by
  obtain ⟨hmax, h⟩ := execTxSend_of_enqueues h (by simp [ht])
  obtain ⟨buf, hbuf, he⟩ := txSerialize_of_payload (comp := comp) (msg := msg)
    (s := s.afterAlloc (frameSize len.toNat)) hp hlen
  cases he.symm.trans h
  have hstream := List.append_cancel_left (as := s.txStream) ht
  rw [hbuf] at hstream
  exact ⟨hlen.trans_le hmax, (List.singleton_inj.mp hstream).symm⟩

/-! What the receiver's buffer holds after a frame. -/

theorem FrameReceived.fbBytes_payload {s v : State} {comp msg lo hi : Byte} {payload : List Byte}
    (h : FrameReceived s v comp msg payload lo hi) : v.fbBytes (payloadIndex 0) payload.length = payload := by
  refine List.ext_getElem? fun k => ?_
  rcases Nat.lt_or_ge k payload.length with hk | hk
  · have hcell : v.fb.read (lengthIndex + (3 + k)) = payload[k] :=
      State.read_of_fbBytes h.cells (by simp [Nat.add_comm 3, List.getElem?_append_left hk])
    have hindex : payloadIndex 0 + k = lengthIndex + (3 + k) := by
      unfold payloadIndex headerSize lengthIndex; omega
    rw [State.fbBytes, List.getElem?_map, List.getElem?_range hk, Option.map_some, hindex, hcell,
      List.getElem?_eq_getElem hk]
  · rw [List.getElem?_eq_none hk, List.getElem?_eq_none (by simpa [State.fbBytes] using hk)]

/-- Inside a frame, a frame is taken for more of the frame in progress: fed after one start marker, its own marker is a length
no frame of its size completes. -/
theorem exists_frame_lost_inside_a_frame : ∃ (frame : List Byte) (s t r u : State),
    exec (.txSend 0 0 0) s = .next t ∧ t.txStream = s.txStream ++ [frame] ∧ BlockInv r ∧ r.config = s.config ∧
      r.rxState ≠ awaitingStart ∧ feedAll frame r = .next u ∧ u.frameValid = false := by
  obtain ⟨buf, hbuf, hsend⟩ := txSerialize_of_payload (comp := 0) (msg := 0) (len := 0) (payload := []) (rest := [])
    (s := (payloadSupplied 0).afterAlloc (frameSize 0)) rfl rfl
  have hexec : exec (.txSend 0 0 0) (payloadSupplied 0) = _ :=
    (execTxSend_of_granted (len := 0) (Nat.zero_le _) rfl rfl).trans hsend
  obtain ⟨u, hu, hbody⟩ := feedAll_frameStart (s := State.reset) (n := 0xA5) 0 0
    (body := [0, loByte (frameCrc 0 0 []), hiByte (frameCrc 0 0 [])]) rfl (by decide) (by decide)
  rw [feedAll_cons_of_next (execRxFeed_marker rfl)] at hu
  refine ⟨wireFrame 0xA5 0 0 [], payloadSupplied 0, _, beginFrame 0xA5 (State.reset.setFrameValid false), u, hexec, ?_,
    invAtReset.clearValid.beginFrame rfl, rfl, awaitingHeader_ne_awaitingStart, hu, hbody.frameValid⟩
  exact congrArg ([] ++ [·]) hbuf

/-- Settles O45: the frame sent is the wire frame, and a unit in AwaitingStart receives that; one inside a frame need not. -/
theorem transmitReceiveRoundTrip : Obligations.TransmitReceiveRoundTrip := by
  refine ⟨fun comp msg len s t r frame payload rest h ht hp hlen hr hcfg => ?_, exists_frame_lost_inside_a_frame⟩
  obtain ⟨hmax, rfl⟩ := enqueued_eq_wireFrame h ht hp hlen
  have hn : BitVec.ofNat 8 payload.length = len := ofNat_length_eq hlen
  have hdata : BitVec.ofNat 16 payload.length = zext16 len := by rw [hlen]; exact BitVec.ofNat_toNat 16 len
  obtain ⟨u, hu, hframe⟩ := feedAll_wireFrame comp msg hr hmax
  have hresp := hframe.responses
  have hpayload := hframe.fbBytes_payload
  have hread {k : Nat} {b : Byte} := State.read_of_fbBytes (k := k) (b := b) hframe.cells
  rw [frameVerdict_of_eq (leHalf_loByte_hiByte _), hdata, hlen] at hresp
  rw [hlen] at hpayload
  exact ⟨u, by rw [← hcfg, hu], hresp, hframe.frameValid.trans (by simp),
    congrArg BitVec.toNat ((hread (k := 0) rfl).trans hn), hread (k := 1) rfl, hread (k := 2) rfl, hpayload⟩

end Sys2Proof.Machine
end

section
/-! `TX_SEND`, outcome by outcome: the two failures of R153 and R154, the frame of R151, and what no outcome touches (R155,
R156): O46, O47, O49, O50. -/

namespace Sys2Proof.Machine

theorem frameSize_eq (n : Nat) : frameSize n = n + 6 := by
  unfold frameSize headerSize checksumSize
  omega

/-! The `HostAlloc` call. -/

theorem State.afterAlloc_of_unbound {s : State} (h : s.transportBound = false) (n : Nat) :
    s.afterAlloc n = { s with allocCalls := s.allocCalls ++ [n] } := by
  simp [State.afterAlloc, h]

theorem State.afterAlloc_of_bound {s : State} {a : AllocAnswer} {answers : List AllocAnswer}
    (hbound : s.transportBound = true) (hans : s.allocAnswers = a :: answers) (n : Nat) :
    s.afterAlloc n = { s with allocAnswers := answers, allocCalls := s.allocCalls ++ [n] } := by
  simp [State.afterAlloc, hbound, hans]

/-! The failures. -/

/-- A length above `MAX_PAYLOAD` is answered before any `HostAlloc` (R153). -/
theorem execTxSend_of_tooLarge (comp msg : Byte) {len : Byte} (s : State) (hlen : maxPayload < len.toNat) :
    execTxSend comp msg len s = .next (s.respond .payloadTooLarge 0) := if_pos hlen

/-- A denied buffer is answered after the one `HostAlloc` call (R153, R154). -/
theorem execTxSend_of_denied (comp msg : Byte) {len : Byte} {s : State} (hlen : len.toNat ≤ maxPayload)
    (hans : s.nextAllocAnswer = .denied) :
    execTxSend comp msg len s = .next ((s.afterAlloc (frameSize len.toNat)).respond .transportUnavailable 0) := by
  rw [execTxSend, if_neg (Nat.not_lt.mpr hlen), hans]

/-- Settles O46: one lemma an answer; an unbound transport denies like a bound one that says so (R193). -/
theorem txSendFailures : Obligations.TxSendFailures := by
  refine ⟨fun comp msg len s hlen => execTxSend_of_tooLarge comp msg s hlen, fun comp msg len s hlen hbound => ?_,
    fun comp msg len s answers hlen hbound hans => ?_⟩
  · have hdenied : s.nextAllocAnswer = .denied := by simp [State.nextAllocAnswer, hbound]
    refine (execTxSend_of_denied comp msg hlen hdenied).trans ?_
    rw [State.afterAlloc_of_unbound hbound, frameSize_eq]
    rfl
  · have hdenied : s.nextAllocAnswer = .denied := by simp [State.nextAllocAnswer, hbound, hans]
    refine (execTxSend_of_denied comp msg hlen hdenied).trans ?_
    rw [State.afterAlloc_of_bound hbound hans, frameSize_eq]
    rfl

/-! The frame. -/

/-- Settles O47: the grant starts `txSerialize`, whose buffer holds the wire frame. -/
theorem txSendEnqueuesTheWireFrame : Obligations.TxSendEnqueuesTheWireFrame := by
  intro comp msg len payload rest answers s hlen hn hp hbound hans c
  have hc : frameCrc comp msg payload = c := by rw [frameCrc, ofNat_length_eq hn]
  obtain ⟨buf, hbuf, hsend⟩ := txSerialize_of_payload (comp := comp) (msg := msg)
    (s := s.afterAlloc (frameSize len.toNat)) hp hn
  rw [wireFrame_eq, ofNat_length_eq hn, hc] at hbuf
  refine (execTxSend_of_granted hlen hbound hans).trans (hsend.trans ?_)
  rw [State.hostEnqueue, hbuf, hc, State.afterAlloc_of_bound hbound hans, frameSize_eq]
  rfl

/-- Settles O50: `CRC16` on the CRC unit folds the bytes that the checksum of the frame covers (R61, R86). -/
theorem txChecksumIsTheCrcUnits : Obligations.TxChecksumIsTheCrcUnits := by
  intro comp msg len payload rest answers s u hlen hn hp hbound hans
  obtain ⟨rs, -, hcrc⟩ := execAll_crcSeed_crcUpdate_crcRead crcInit (len :: comp :: msg :: payload) u
  exact ⟨_, _, _, _, txSendEnqueuesTheWireFrame comp msg len payload rest answers s hlen hn hp hbound hans, rfl, rfl,
    hcrc, List.getLast?_concat⟩

/-! What no outcome touches. -/

/-- A frame handed over is the wire frame of the payload bytes read for it (R150, R151). -/
theorem txSerialize_eq_next {comp msg len : Byte} {s t : State} (h : txSerialize comp msg len s = .next t) :
    ∃ payload rest, payload.length = len.toNat ∧ s.payload = payload ++ rest ∧ t.payload = rest ∧
      t.txStream = s.txStream ++ [wireFrame s.config.startMarker comp msg payload] := by
  obtain ⟨r, hr, -⟩ := andThen_eq_next.mp h
  obtain ⟨payload, hlen, hp, -⟩ := txPayload_eq_next hr
  obtain ⟨buf, hbuf, hsend⟩ := txSerialize_of_payload (comp := comp) (msg := msg) hp hlen
  cases hsend.symm.trans h
  exact ⟨payload, _, hlen, hp, rfl, congrArg (s.txStream ++ [·]) hbuf⟩

theorem length_wireFrame (marker comp msg : Byte) (payload : List Byte) :
    (wireFrame marker comp msg payload).length = payload.length + 6 := by
  simp [wireFrame_eq]

theorem extract_wireFrame (marker comp msg : Byte) (payload : List Byte) :
    (wireFrame marker comp msg payload).extract 4 (4 + payload.length) = payload := by
  simp [wireFrame_eq]

/-- A `TX_SEND` that hands something over hands over one frame of `N + 6` bytes, with the `N` payload bytes it read in it. -/
theorem execTxSend_frame_of_enqueues {comp msg len : Byte} {s t : State} (h : execTxSend comp msg len s = .next t)
    (ht : t.txStream ≠ s.txStream) :
    ∃ f, t.txStream = s.txStream ++ [f] ∧ f.length = len.toNat + 6 ∧
      s.payload = f.extract 4 (4 + len.toNat) ++ t.payload := by
  obtain ⟨payload, rest, hlen, hp, hrest, hstream⟩ := txSerialize_eq_next (execTxSend_of_enqueues h ht).2
  refine ⟨_, hstream, by rw [length_wireFrame, hlen], ?_⟩
  rw [← hlen, extract_wireFrame, hrest]
  exact hp

/-- Settles O49: each of the three answers is an update of the TX unit's own part, and a frame goes with `OK` alone; the rest
commutes with `TX_SEND` because it is blind to it. -/
theorem txSendDisturbsNoOtherUnit : Obligations.TxSendDisturbsNoOtherUnit := by
  refine ⟨fun comp msg len s t h => ?_, fun comp msg len acc r s => ?_⟩
  · obtain rfl | rfl | ⟨rest, buf, crc, ht⟩ := execTxSend_eq_next h
    · exact ⟨rfl, rfl, rfl, rfl, rfl, .payloadTooLarge, 0, rfl, .inr ⟨by decide, rfl, rfl⟩⟩
    · exact ⟨rfl, rfl, rfl, rfl, rfl, .transportUnavailable, 0, rfl, .inr ⟨by decide, rfl, rfl⟩⟩
    · have hframe := execTxSend_frame_of_enqueues h (by simp [ht])
      subst ht
      exact ⟨rfl, rfl, rfl, rfl, rfl, .ok, crc, rfl, .inl ⟨rfl, hframe⟩⟩
  · change execTxSend comp msg len ((s.setCrcAcc acc).withRxOf r) = _
    rw [(TxBlind.withRxOf r).execTxSend, (TxBlind.setCrcAcc acc).execTxSend, andThen_assoc]
    rfl

end Sys2Proof.Machine
end

section
/-! What a step answers: one response of the catalogue (R172), and no fault from a state that meets the invariant (R30,
R170): O11 and O57. -/

namespace Sys2Proof.Machine

/-- Settles O11: an illegal word is answered and nothing else, and a command writes its own unit and one response. -/
theorem oneResponsePerCommand : Obligations.OneResponsePerCommand := by
  intro s t w rest hc h
  obtain ⟨hnil, -⟩ | ⟨w', rest', hc', ⟨e, hd, rfl⟩ | ⟨i, hd, he⟩⟩ := step_eq_next h
  · cases hc.symm.trans hnil
  · cases hc.symm.trans hc'
    rw [hd]
    exact ⟨rfl, .illegalCommand, 0, rfl, rfl, rfl⟩
  · cases hc.symm.trans hc'
    rw [hd]
    obtain ⟨st, d, hst, hr⟩ := exec_responses he
    exact ⟨exec_keeps_commands he, st, d, hr, hst⟩

/-! The one stop: a granted `TX_SEND` whose payload is short (R55, log 7). -/

/-- A buffer is granted exactly by a bound transport whose next answer says so (R53, R193). -/
theorem State.nextAllocAnswer_eq_granted_iff {s : State} :
    s.nextAllocAnswer = .granted ↔ s.transportBound = true ∧ ∃ answers, s.allocAnswers = .granted :: answers := by
  unfold State.nextAllocAnswer
  cases s.transportBound with
  | false => simp
  | true => cases s.allocAnswers <;> simp

/-- The host grants the buffer of this `TX_SEND` and supplies fewer payload bytes than its length. -/
structure PayloadShort (len : Byte) (s : State) : Prop where
  legal : len.toNat ≤ maxPayload
  short : s.payload.length < len.toNat
  bound : s.transportBound = true
  granted : ∃ answers, s.allocAnswers = .granted :: answers

/-- With its payload supplied, a granted `TX_SEND` hands the frame over. -/
theorem exists_txSerialize_of_le_payload (comp msg : Byte) {len : Byte} {s : State} (h : len.toNat ≤ s.payload.length) :
    ∃ t, txSerialize comp msg len s = .next t := by
  obtain ⟨r, hr⟩ := exists_txPayload_of_le_payload 0 (txHeader s.config.startMarker comp msg len) h
  rw [txSerialize, hr, andThen_next]
  exact ⟨_, rfl⟩

/-- A `TX_SEND` answers from every state in which its payload is not short. -/
theorem exists_execTxSend_or_payloadShort (comp msg len : Byte) (s : State) :
    (∃ t, execTxSend comp msg len s = .next t) ∨ PayloadShort len s := by
  by_cases hlen : len.toNat ≤ maxPayload
  · cases hans : s.nextAllocAnswer with
    | denied => exact .inl ⟨_, execTxSend_of_denied comp msg hlen hans⟩
    | granted =>
      obtain ⟨hbound, answers, hgranted⟩ := State.nextAllocAnswer_eq_granted_iff.mp hans
      by_cases hp : len.toNat ≤ s.payload.length
      · rw [execTxSend_of_granted hlen hbound hgranted]
        exact .inl (exists_txSerialize_of_le_payload comp msg hp)
      · exact .inr ⟨hlen, Nat.lt_of_not_le hp, hbound, answers, hgranted⟩
  · exact .inl ⟨_, execTxSend_of_tooLarge comp msg s (Nat.lt_of_not_le hlen)⟩

/-- From a state that meets the invariant every command answers, except a `TX_SEND` whose payload is short. -/
theorem exists_exec_or_payloadShort {s : State} (h : BlockInv s) (i : Instr) :
    (∃ t, exec i s = .next t) ∨ ∃ comp msg len, i = .txSend comp msg len ∧ PayloadShort len s := by
  cases i with
  | crcInit | crcSeed _ | crcUpdate _ | crcRead | rxReset | rxStatus => exact .inl ⟨_, rfl⟩
  | rxFeed b =>
    obtain ⟨t, ht, -⟩ := h.execRxFeed b
    exact .inl ⟨t, ht⟩
  | rxRead idx => exact .inl ⟨_, execRxRead_eq idx s⟩
  | txSend comp msg len => exact (exists_execTxSend_or_payloadShort comp msg len s).imp_right fun hs => ⟨_, _, _, rfl, hs⟩

/-- Settles O57, by what the next word is: only a `TX_SEND` whose payload is short stops, and it is refused (O48). -/
theorem invStatesNeverFault : Obligations.InvStatesNeverFault := by
  intro s h
  cases hc : s.commands with
  | nil => exact .inl ⟨_, step_of_commands_nil hc⟩
  | cons w rest =>
    cases hd : decode w with
    | error e => exact .inl ⟨_, step_of_decode_error hc hd⟩
    | ok i =>
      have hissued : BlockInv (s.setCommands rest) := h.of_withRxOf rfl rfl
      have hstep : step s = exec i (s.setCommands rest) := step_of_decode hc hd
      obtain hnext | ⟨comp, msg, len, rfl, hlen, hshort, hbound, answers, hans⟩ := exists_exec_or_payloadShort hissued i
      · exact .inl (hstep ▸ hnext)
      · have hrefused := txSendWithoutPayloadIsRefused comp msg len answers (s.setCommands rest) hlen hshort hbound hans
        have hw : encode (.txSend comp msg len) = w := onlyItsOwnWordDecodesToACommand w _ hd
        exact .inr ⟨hstep.trans hrefused, comp, msg, len, rest, answers, by rw [hw], hlen, hshort, hbound, hans⟩

end Sys2Proof.Machine
end

section
/-! What no step changes and what it only appends to (R54, R193), and the reset values (R190, R192): O12, O13 and O14. -/

namespace Sys2Proof.Machine

/-! The parameters, the binding and the outputs. -/

@[simp] theorem State.withUnitOf_config (s : State) (u : BlockUnit) (r : State) :
    (s.withUnitOf u r).config = s.config := by cases u <;> rfl

@[simp] theorem State.withUnitOf_transportBound (s : State) (u : BlockUnit) (r : State) :
    (s.withUnitOf u r).transportBound = s.transportBound := by cases u <;> rfl

/-- The parameters and the binding belong to no unit, so no command writes them (R193). -/
theorem exec_keeps_config_and_transportBound {i : Instr} {s t : State} (h : exec i s = .next t) :
    t.config = s.config ∧ t.transportBound = s.transportBound := by
  obtain ⟨st, d, -, ht⟩ := exec_writes_own_unit h
  rw [ht, State.respond_config, State.respond_transportBound, State.withUnitOf_config, State.withUnitOf_transportBound]
  exact ⟨rfl, rfl⟩

/-- `TX_SEND` appends at most one frame and one `HostAlloc` call (R53, R54). -/
theorem execTxSend_appends {comp msg len : Byte} {s t : State} (h : execTxSend comp msg len s = .next t) :
    s.txStream <+: t.txStream ∧ s.allocCalls <+: t.allocCalls := by
  obtain rfl | rfl | ⟨_, _, _, rfl⟩ := execTxSend_eq_next h
  · exact ⟨List.prefix_rfl, List.prefix_rfl⟩
  · exact ⟨List.prefix_rfl, List.prefix_append _ _⟩
  · exact ⟨List.prefix_append _ _, List.prefix_append _ _⟩

/-- The frames and the `HostAlloc` calls belong to the TX unit, and its one command only appends to them. -/
theorem exec_appends_to_txStream_and_allocCalls {i : Instr} {s t : State} (h : exec i s = .next t) :
    s.txStream <+: t.txStream ∧ s.allocCalls <+: t.allocCalls := by
  obtain ⟨st, d, -, ht⟩ := exec_writes_own_unit h
  cases i with
  | txSend comp msg len => exact execTxSend_appends h
  | crcInit | crcSeed _ | crcUpdate _ | crcRead | rxReset | rxFeed _ | rxRead _ | rxStatus =>
    have hstream : t.txStream = s.txStream := (congrArg State.txStream ht).trans rfl
    have hcalls : t.allocCalls = s.allocCalls := (congrArg State.allocCalls ht).trans rfl
    rw [hstream, hcalls]
    exact ⟨List.prefix_rfl, List.prefix_rfl⟩

/-- Settles O12, by what a step can do: nothing, one response to an illegal word, or a command, which writes its own unit and
one response. -/
theorem stepKeepsConfigAndOutputs : Obligations.StepKeepsConfigAndOutputs := by
  intro s t h
  obtain ⟨-, rfl⟩ | ⟨w, rest, -, ⟨e, -, rfl⟩ | ⟨i, -, he⟩⟩ := step_eq_next h
  · exact ⟨rfl, rfl, List.prefix_rfl, List.prefix_rfl, List.prefix_rfl⟩
  · exact ⟨rfl, rfl, List.prefix_append _ _, List.prefix_rfl, List.prefix_rfl⟩
  · obtain ⟨hconfig, hbound⟩ := exec_keeps_config_and_transportBound he
    obtain ⟨st, d, -, hresponses⟩ := exec_responses he
    obtain ⟨hstream, hcalls⟩ := exec_appends_to_txStream_and_allocCalls he
    exact ⟨hconfig, hbound, ⟨_, hresponses.symm⟩, hstream, hcalls⟩

/-! The reset values. -/

/-- Settles O13, by the definition of the state after reset. -/
theorem resetValues : Obligations.ResetValues := ⟨rfl, rfl, rfl, rfl, rfl, rfl⟩

/-- Settles O14: the two commands by O26 and O20, one after the other. -/
theorem partialResets : Obligations.PartialResets := by
  intro s
  refine ⟨⟨_, rxResetResult s, rfl, rfl, rfl, rfl, rfl, rfl, rfl⟩, ⟨_, crcInitResult s, rfl⟩, ?_⟩
  rw [execAll, rxResetResult s, andThen_next, execAll, crcInitResult, andThen_next, execAll, List.append_assoc]
  rfl

end Sys2Proof.Machine
end
